-- ==== Sys2Proof/Word.lean ====
section
/-! DEFINITION. The word types of the Nuvilo BC-96: the byte of its serial connections, the conveyor
count (0–65535, modular) and the line clock (a 32-bit count of milliseconds), 00_scope §4.1. -/

namespace Sys2Proof

/-- A byte of the supervisor link or of a reader port. -/
abbrev Byte := BitVec 8

/-- A conveyor position in encoder counts, 0–65535, modular (00_scope §4.1, §4.2). -/
abbrev Count := BitVec 16

/-- A time of the line clock in ms, wrapping from 4,294,967,295 to 0 (00_scope §4.1). -/
abbrev Clock := BitVec 32

end Sys2Proof
end

