-- ==== Sys2Proof/Syntax.lean ====
section
/-! DEFINITION. The commands of the block: one constructor of `Instr` for each row of
spec/opcode_table.json, in the table's order, with the names their operands take. -/

namespace Sys2Proof

/-- The three encoded zones, which have a belt (04_conveyor_tracking §4.1). -/
inductive Belt
  | a | b | c
  deriving DecidableEq, Repr

/-- The four zones of the line (00_scope §2.2). -/
inductive Zone
  | a | b | p | c
  deriving DecidableEq, Repr

/-- The three reader ports (R3). -/
inductive Port
  | blockPort | casePort | jacketPort
  deriving DecidableEq, Repr

/-- The eleven eyes, in the order of their points 7 to 17 (04_conveyor_tracking §4.2). -/
inductive Eye
  | gauge | stageEntry | release | reject | casing | casingExit | pressEntry | unload
  | jacket | jacketExit | outfeed
  deriving DecidableEq, Repr

/-- The five watch points (04_conveyor_tracking §4.3). -/
inductive Watch
  | stagingEntry | casing | pressEntry | jacket | outfeed
  deriving DecidableEq, Repr

/-- One command of the block. The rows from `status` to `restart` are the requests of the supervisor
link, taken whole (R164): each carries its body as the bytes received, so that the length tests of the
rules belong to the command. The rows that report a change of a field point stand for that change on
the line (R158); `encoderPhaseChange` gives the two levels its phase lines stand at from then on. -/
inductive Instr
  | powerOn
  | linkByteReceived (b : Byte)
  | linkGapTimeout
  | responseSent
  | unknownRequest (code : Byte) (body : List Byte)
  | status (body : List Byte)
  | readConfig (body : List Byte)
  | setConfig (body : List Byte)
  | setPoint (body : List Byte)
  | readPoints (body : List Byte)
  | loadOrder (body : List Byte)
  | amendOrder (body : List Byte)
  | holdOrder (body : List Byte)
  | resumeOrder (body : List Byte)
  | closeOrder (body : List Byte)
  | readOrder (body : List Byte)
  | readCopyMap (body : List Byte)
  | admitAdd (body : List Byte)
  | admitClear (body : List Byte)
  | readBook (body : List Byte)
  | findBook (body : List Byte)
  | listOutcomes (body : List Byte)
  | collect (body : List Byte)
  | markReject (body : List Byte)
  | zoneRun (body : List Byte)
  | zoneStop (body : List Byte)
  | zoneHalt (body : List Byte)
  | purge (body : List Byte)
  | clearFaults (body : List Byte)
  | rearmOutputs (body : List Byte)
  | trackingReset (body : List Byte)
  | restart (body : List Byte)
  | readerCharacter (p : Port) (c : Byte) (framingError : Bool)
  | readerGapTimeout (p : Port)
  | gaugeReading (v : Nat)
  | encoderPhaseChange (z : Belt) (x y : Bool)
  | backTravel (z : Belt)
  | samplePoint
  | spanOverrun
  | readWindowClose
  | watchWindowOpen (w : Watch)
  | headMissing (w : Watch)
  | gaugeLeadingEdge
  | gaugeTrailingEdge
  | eyeTrailingEdge (e : Eye)
  | watchPointArrival (w : Watch)
  | releaseEyeEdge
  | rejectEyeEdge
  | casingExitEyeEdge
  | unloadEyeEdge
  | jacketExitEyeEdge
  | caseFed
  | caseEjected
  | casingDone
  | casingFault
  | indexDone
  | jacketFed
  | jacketEjected
  | jacketDone
  | jacketFault
  | guardOpens
  | guardCloses
  | drainEnd (z : Zone)
  | stagingHeadDecision
  | jacketStopDecision
  | casingCycleBegin
  | casingReleaseCommand
  | jacketReleaseCommand
  | indexCommand
  | stagingReleaseTimeout
  | casingReleaseTimeout
  | caseEjectTimeout
  | casingTimeout
  | earlyHoldExpiry
  | caseWaitExpiry
  | indexTimeout
  | unloadGraceExpiry
  | jacketEjectTimeout
  | jacketCycleTimeout
  | jacketReleaseTimeout
  | jacketWaitExpiry
  | speedPeriod
  deriving DecidableEq, Repr

end Sys2Proof
end

