-- ==== Sys2Proof/Decode.lean ====
section
/-! DEFINITION. What the table's bits spell (nothing: no row of spec/opcode_table.json gives bits), and
the one encoding the spec does give its commands: the request frame of the supervisor link (R162). -/

namespace Sys2Proof

/-- The command that a word spells by the bits of spec/opcode_table.json: no row of that table gives
any bits, so no word spells a command. -/
def decodeTableWord (_nbits _w : Nat) : Option Instr := none

/-- The request that a request code names, by the table of 10_supervisor_link §10.3; a code that is not
in the table is the unknown request of R164. -/
def requestOf (code : Byte) (body : List Byte) : Instr :=
  if code = 0x01#8 then .status body
  else if code = 0x02#8 then .readConfig body
  else if code = 0x03#8 then .setConfig body
  else if code = 0x04#8 then .setPoint body
  else if code = 0x05#8 then .readPoints body
  else if code = 0x10#8 then .loadOrder body
  else if code = 0x11#8 then .amendOrder body
  else if code = 0x12#8 then .holdOrder body
  else if code = 0x13#8 then .resumeOrder body
  else if code = 0x14#8 then .closeOrder body
  else if code = 0x15#8 then .readOrder body
  else if code = 0x16#8 then .readCopyMap body
  else if code = 0x18#8 then .admitAdd body
  else if code = 0x19#8 then .admitClear body
  else if code = 0x20#8 then .readBook body
  else if code = 0x21#8 then .findBook body
  else if code = 0x22#8 then .listOutcomes body
  else if code = 0x23#8 then .collect body
  else if code = 0x24#8 then .markReject body
  else if code = 0x30#8 then .zoneRun body
  else if code = 0x31#8 then .zoneStop body
  else if code = 0x32#8 then .zoneHalt body
  else if code = 0x33#8 then .purge body
  else if code = 0x34#8 then .clearFaults body
  else if code = 0x35#8 then .rearmOutputs body
  else if code = 0x36#8 then .trackingReset body
  else if code = 0x3F#8 then .restart body
  else .unknownRequest code body

/-- The request codes of 10_supervisor_link §10.3. -/
def requestCodes : List Byte :=
  [0x01#8, 0x02#8, 0x03#8, 0x04#8, 0x05#8, 0x10#8, 0x11#8, 0x12#8, 0x13#8, 0x14#8, 0x15#8, 0x16#8,
   0x18#8, 0x19#8, 0x20#8, 0x21#8, 0x22#8, 0x23#8, 0x24#8, 0x30#8, 0x31#8, 0x32#8, 0x33#8, 0x34#8,
   0x35#8, 0x36#8, 0x3F#8]

/-- The sum of bytes modulo 256 (R162). -/
def byteSum (bs : List Byte) : Byte := bs.foldl (· + ·) 0#8

/-- The check byte of a frame: with it, the bytes after the start byte sum to 0 mod 256 (R162). -/
def checkByte (bs : List Byte) : Byte := - byteSum bs

/-- A request frame as the line supervisor sends it: start 0xA5, length L of code and body, request
code, body, check byte (R162). -/
def requestFrame (code : Byte) (body : List Byte) : List Byte :=
  let l : Byte := BitVec.ofNat 8 (body.length + 1)
  0xA5#8 :: l :: code :: (body ++ [checkByte (l :: code :: body)])

end Sys2Proof
end

