-- ==== Sys2Proof/Config.lean ====
section
/-! DEFINITION. The configuration values that SET CONFIG puts in force, with their defaults
(10_supervisor_link §10.5), and the values that the spec leaves open: opaque constants, of which nothing
can be proved. -/

namespace Sys2Proof

/-- One value for each encoded zone. -/
structure PerBelt (α : Type) where
  a : α
  b : α
  c : α
  deriving DecidableEq, Repr

/-- The value of one encoded zone. -/
def PerBelt.get {α : Type} (p : PerBelt α) : Belt → α
  | .a => p.a
  | .b => p.b
  | .c => p.c

/-- Replaces the value of one encoded zone. -/
def PerBelt.set {α : Type} (p : PerBelt α) (z : Belt) (v : α) : PerBelt α :=
  match z with
  | .a => { p with a := v }
  | .b => { p with b := v }
  | .c => { p with c := v }

/-- The configuration: one set of values, in the order READ CONFIG gives them (R166). -/
structure Cfg where
  /-- Encoder scale, µm per count, 20–400 (04_conveyor_tracking §4.5). -/
  scale : PerBelt Nat
  /-- Window W, counts, 2–200. -/
  window : PerBelt Nat
  /-- Margin M, counts, 3–1000. -/
  margin : PerBelt Nat
  /-- Back-travel limit, counts, 8–1000. -/
  backLimit : PerBelt Nat
  /-- D_stage, counts, 1–32767. -/
  dStage : Nat
  /-- D_case. -/
  dCase : Nat
  /-- D_press. -/
  dPress : Nat
  /-- D_jkt. -/
  dJkt : Nat
  /-- D_out. -/
  dOut : Nat
  /-- Sampling points S1 to S4, counts (05_gauging_and_spine_fit §5.8). -/
  s1 : Nat
  s2 : Nat
  s3 : Nat
  s4 : Nat
  /-- Maximum span, counts. -/
  maxSpan : Nat
  /-- Read grace, counts. -/
  readGrace : Nat
  /-- Spread limit, 0.01 mm. -/
  spreadLimit : Nat
  /-- Minimum gauge pitch, counts. -/
  minPitch : Nat
  /-- Admission reserve, slots, 1–8 (R48). -/
  reserve : Nat
  /-- Release timeout, ms (06_staging_and_casing_in §6.11). -/
  releaseTimeout : Nat
  /-- Case eject timeout, ms. -/
  caseEjectTimeout : Nat
  /-- Casing timeout, ms. -/
  casingTimeout : Nat
  /-- Early-hold time, ms. -/
  earlyHold : Nat
  /-- Case-wait time, ms. -/
  caseWait : Nat
  /-- Press reach K, pitches, 8–23 (07_building_in_press §7.9). -/
  reach : Nat
  /-- P_min, ms. -/
  pMin : Nat
  /-- P_max, ms. -/
  pMax : Nat
  /-- Index timeout, ms. -/
  indexTimeout : Nat
  /-- Unload grace, ms. -/
  unloadGrace : Nat
  /-- Jacket eject timeout, ms (08_jacketing_and_delivery §8.10). -/
  jacketEjectTimeout : Nat
  /-- Jacket cycle timeout, ms. -/
  jacketCycleTimeout : Nat
  /-- Jacket-wait time, ms. -/
  jacketWait : Nat
  /-- Collection threshold, records, 1–48 (R167). -/
  threshold : Nat
  deriving DecidableEq, Repr

/-- The defaults, in force from power-on (00_scope §4.5; the tables of 4.5, 5.8, 6.11, 7.9, 8.10, R48
and 10.5). -/
def Cfg.default : Cfg where
  scale := ⟨125, 125, 125⟩
  window := ⟨20, 20, 20⟩
  margin := ⟨150, 150, 150⟩
  backLimit := ⟨50, 50, 50⟩
  dStage := 6000
  dCase := 2400
  dPress := 3200
  dJkt := 2800
  dOut := 3000
  s1 := 200
  s2 := 450
  s3 := 700
  s4 := 950
  maxSpan := 5000
  readGrace := 400
  spreadLimit := 40
  minPitch := 5600
  reserve := 3
  releaseTimeout := 2000
  caseEjectTimeout := 2000
  casingTimeout := 3000
  earlyHold := 60000
  caseWait := 20000
  reach := 20
  pMin := 2500
  pMax := 6000
  indexTimeout := 3000
  unloadGrace := 1500
  jacketEjectTimeout := 2000
  jacketCycleTimeout := 4000
  jacketWait := 5000
  threshold := 8

/-- FREE VALUE (log entry 3): what an order counter holds after a count beyond 4,294,967,295, the end of
its range (02_orders §2.1), by the order's number, the counter's place in the list of 2.1 and the time. -/
opaque Config.counterPast : Nat → Nat → Clock → BitVec 32

/-- FREE VALUE (log entry 4): a byte of a response body whose content the spec does not give, such as
the place of an absent field (R162), by the response's number and the byte's place. -/
opaque Config.openByte : Nat → Nat → Byte

/-- FREE VALUE (log entry 5): the two bytes by which a belt speed outside −65535 to 65535 is sent; R162
gives none. -/
opaque Config.speedOutside : Int → BitVec 16

/-- FREE VALUE (log entry 6): the two bytes by which a sample that is INVALID is sent; R162 gives
none. -/
opaque Config.invalidSample : BitVec 16

/-- FREE VALUE (log entry 7): the byte by which the role of a field point is sent; the spec gives no
table of all roles in one order. -/
opaque Config.roleByte : Nat → Byte

end Sys2Proof
end

