-- ==== Sys2Proof/Machine/State.lean ====
section
/-! DEFINITION. The state of the block as plain data, its power-on values (`State.reset`), and the reasons
a command may stop. The state is grouped by the functional block that owns it (00_scope §2.3). -/

namespace Sys2Proof.Machine

/-! ### Why a command may stop -/

/-- The faults that stop the machine: there are none. A fault of the line (R152) is state that the Zone
Controller latches, and every command of this block answers a next state. -/
inductive Fault
  deriving DecidableEq, Repr

/-- The refusals. -/
inductive Refusal
  /-- The command has no meaning in the model. No arm raises it: every row of the table is modelled.
  Safe: nothing is claimed of a command that is refused. -/
  | notModelled (mnemonic : String)
  deriving DecidableEq, Repr

/-! ### Time -/

/-- A running timer or an operation's timeout: when it started and how long it is set for. An operation
in flight keeps the timeout it was commanded with (R116, R132, R147). -/
structure Timer where
  since : Clock
  limit : Nat
  deriving DecidableEq, Repr

/-! ### Identifiers and reading (chapter 1) -/

/-- The item letter of an identifier: B, C or J (R1). -/
inductive Item
  | blockItem | caseItem | jacketItem
  deriving DecidableEq, Repr

/-- A VALID identifier. Its twelve characters are fixed by the three values R1 takes from it, since the
check digit follows from them (R1, R2). -/
structure Ident where
  order : Nat
  copy : Nat
  item : Item
  deriving DecidableEq, Repr

/-- The text in reception of a reader port: the first 20 characters, the count of all of them, and when
the last one was added, from which the gap timer runs (R3, R5). A character with a framing error stands
as the byte 0, which is neither digit nor letter. -/
structure RxText where
  stored : List Byte
  count : Nat
  last : Clock
  deriving DecidableEq, Repr

/-- The held scan of the case or jacket port (R7). -/
inductive HeldScan
  | empty
  | holding (i : Ident)
  | conflict
  deriving DecidableEq, Repr

/-- The identity of a fed case or jacket (R8). -/
inductive Identity
  | ident (i : Ident)
  | unreadable
  | conflict
  deriving DecidableEq, Repr

/-- The Reader Interface: one text in reception per port, and the two held scans. -/
structure Readers where
  blockText : RxText
  caseText : RxText
  jacketText : RxText
  heldCase : HeldScan
  heldJacket : HeldScan
  deriving DecidableEq, Repr

/-! ### Orders (chapter 2) -/

inductive MatchMode
  | copyExact | title
  deriving DecidableEq, Repr

inductive JacketMode
  | none | required
  deriving DecidableEq, Repr

inductive OrderState
  | openOrder | held | complete
  deriving DecidableEq, Repr

inductive CopyState
  | notSeen | inProcess | finished | rejected
  deriving DecidableEq, Repr

/-- The template fields of 2.2 that a binding copies into a record: all but the copies ordered (R28). -/
structure Template where
  order : Nat
  mode : MatchMode
  trim : Nat
  lengthTol : Nat
  board : Nat
  rounding : Nat
  spine : Nat
  spineTol : Nat
  looseAccept : Bool
  dwell : Nat
  jacket : JacketMode
  proofFirst : Bool
  deriving DecidableEq, Repr

/-- The seven record counters and the two item counters of an order, each 0 to 4,294,967,295 (2.1). -/
structure Counters where
  admitted : Nat
  inProcess : Nat
  good : Nat
  inspect : Nat
  rejected : Nat
  lost : Nat
  removed : Nat
  casesEjected : Nat
  jacketsEjected : Nat
  deriving DecidableEq, Repr

/-- An order entry (2.1): its entry slot 1–24, template, copies ordered, state, counters, flags and, for
a COPY_EXACT order, the copy map (one state for each copy from 1; empty for a TITLE order). -/
structure Order where
  slot : Nat
  tmpl : Template
  copies : Nat
  state : OrderState
  counters : Counters
  proofTaken : Bool
  unreported : Bool
  copyMap : List CopyState
  deriving DecidableEq, Repr

/-! ### Book records (chapter 3) -/

/-- The reject reasons, in the order of the table of 3.6. -/
inductive Reason
  | foreign | noRead | ambiguous | wrongItem | duplicate | overCount
  | noOrder | orderHeld | noCase
  | gaugeFail | spread | wrongSize | spineTight | spineLoose
  | casingFault | casingTimeout | suspect | requested
  deriving DecidableEq, Repr

/-- A record's binding; it is absent until the read window closes. -/
inductive Binding
  | bound
  | early
  | unbound (why : Reason)
  deriving DecidableEq, Repr

/-- A settled thickness sample (R79). An unsettled one is absent. -/
inductive Sample
  | value (v : Nat)
  | invalid
  deriving DecidableEq, Repr

inductive Verdict
  | fit | looseOk | tight | loose
  deriving DecidableEq, Repr

inductive JacketResult
  | jacketed | unjacketed
  deriving DecidableEq, Repr

inductive Lane
  | good | inspect | reject
  deriving DecidableEq, Repr

/-- The twelve lifecycle states (3.3). -/
inductive Life
  | gauging | toStaging | staged | toCasing | casing | toPress | pressQueued | pressing
  | toJacket | atJacket | toOutfeed | retired
  deriving DecidableEq, Repr

/-- The outcome of a retired record; REJECTED carries the record's reject-pending reason (R46). -/
inductive BookOutcome
  | good | inspect
  | rejected (why : Option Reason)
  | lost | removed
  deriving DecidableEq, Repr

/-- The press data of a PRESSING record (R40). -/
structure PressData where
  pocket : Nat
  loadTime : Clock
  laps : Nat
  deriving DecidableEq, Repr

/-- A book record (3.2). The order and copy numbers are those of the block identifier. -/
structure Book where
  slot : Nat
  seq : Nat
  created : Clock
  ident : Option Ident
  binding : Option Binding
  badRead : Bool
  tmpl : Option Template
  lead : Count
  trail : Option Count
  samples : List (Option Sample)
  thickness : Option Nat
  lm : Option Nat
  spread : Option Nat
  sr : Option Nat
  verdict : Option Verdict
  reason : Option Reason
  marriedCase : Option Ident
  marriedJacket : Option Ident
  jacketResult : Option JacketResult
  proof : Bool
  lane : Option Lane
  life : Life
  position : Option (Belt × Count)
  press : Option PressData
  outcome : Option BookOutcome
  retiredAt : Option Clock
  lifeAtRetirement : Option Life
  deriving DecidableEq, Repr

/-- The Book Table: the live and retired records in the order of their creation (which is what the
manual calls sequence order, R35), the next-sequence counter, the last-lead value (R42), the outcome
list (slots, oldest first, R47) and the four belt lists it keeps (slots, head first, R41). -/
structure BookTable where
  books : List Book
  nextSeq : Nat
  lastLead : Option Count
  outcomes : List Nat
  transit : List Nat
  pressApproach : List Nat
  jacketApproach : List Nat
  delivery : List Nat
  deriving DecidableEq, Repr

/-! ### Tracking (chapter 4) -/

inductive Direction
  | forward | reverse
  deriving DecidableEq, Repr

/-- What the Tracking Unit keeps for one encoded zone (R58, R63, R74). `net` is the net count of the
speed period in progress, and `periodScale` the encoder scale it is computed with: the scale in force
when it began (R76). `backReported` is the model's own: BACK_TRAVEL has been reported at the present
count (log entry 8); and `counted`: a count has been taken with the configuration
in force (log entry 30). -/
structure BeltState where
  count : Count
  phase : Bool × Bool
  direction : Direction
  mark : Count
  net : Int
  periodScale : Nat
  speed : Int
  backPressure : Bool
  backReported : Bool
  counted : Bool
  deriving DecidableEq, Repr

/-- One value for each watch point. -/
structure PerWatch (α : Type) where
  stagingEntry : α
  casing : α
  pressEntry : α
  jacket : α
  outfeed : α
  deriving DecidableEq, Repr

/-- The value of one watch point. -/
def PerWatch.get {α : Type} (p : PerWatch α) : Watch → α
  | .stagingEntry => p.stagingEntry
  | .casing => p.casing
  | .pressEntry => p.pressEntry
  | .jacket => p.jacket
  | .outfeed => p.outfeed

/-- Replaces the value of one watch point. -/
def PerWatch.set {α : Type} (p : PerWatch α) (w : Watch) (v : α) : PerWatch α :=
  match w with
  | .stagingEntry => { p with stagingEntry := v }
  | .casing => { p with casing := v }
  | .pressEntry => { p with pressEntry := v }
  | .jacket => { p with jacket := v }
  | .outfeed => { p with outfeed := v }

/-- The Tracking Unit: the three belts, the opened flags of the watch points (R66), the capture and the
time of each eye's last leading edge (R64; in the order of `Eye`), and when the speed period in
progress began (R63). -/
structure Tracking where
  belts : PerBelt BeltState
  opened : PerWatch Bool
  eyes : List (Option (Count × Clock))
  periodStart : Clock
  deriving DecidableEq, Repr

/-! ### Gauging (chapter 5) -/

/-- The length measurement of the gauging record (5.2). -/
inductive LengthState
  | inProgress
  | ended (trail : Option Count)
  deriving DecidableEq, Repr

/-- What an open read window has gathered: the VALID identifiers, repeats included, and the bad-read
mark (R6). -/
structure ReadWindow where
  idents : List Ident
  bad : Bool
  deriving DecidableEq, Repr

/-- The gauging record (5.2): the record, its length measurement and its read window (`none` is CLOSED).
Which samples are settled stands in the record's own samples. -/
structure Gauging where
  slot : Nat
  seq : Nat
  length : LengthState
  window : Option ReadWindow
  deriving DecidableEq, Repr

/-- The Gauge Unit: the held reading (R79) and the gauging record. -/
structure GaugeUnit where
  held : Option Nat
  current : Option Gauging
  deriving DecidableEq, Repr

/-! ### Staging and casing-in (chapter 6) -/

/-- An entry of the case queue (R93). -/
structure CaseEntry where
  identity : Identity
  reserved : Bool
  deriving DecidableEq, Repr

/-- How an IDLE staging side waits, with its timer (6.3, 6.5). -/
inductive StagingWait
  | none
  | earlyHold (t : Timer)
  | casingBusy
  | caseWait (t : Timer)
  deriving DecidableEq, Repr

/-- The staging side (6.3); each operation with its command time and timeout. -/
inductive StagingSide
  | idle (wait : StagingWait)
  | forwardInFlight (t : Timer)
  | rejectInFlight (t : Timer)
  | ejectInFlight (t : Timer)
  deriving DecidableEq, Repr

/-- The casing side (6.3) with the record in the casing section, which holds one record or, when the
side is EMPTY, none. -/
inductive CasingSide
  | empty
  | approach (r : Nat)
  | cyclePending (r : Nat)
  | inCycle (r : Nat) (t : Timer)
  | cased (r : Nat)
  | releasing (r : Nat) (t : Timer)
  deriving DecidableEq, Repr

/-- The Staging and Casing Unit: the staging queue (slots, head first, R92), the case queue (R93), the
two sides and the eject-overdue mark (R107). -/
structure StagingUnit where
  queue : List Nat
  cases : List CaseEntry
  side : StagingSide
  casing : CasingSide
  overdue : Bool
  deriving DecidableEq, Repr

/-! ### Building-in press (chapter 7) -/

/-- An index in flight (R123): its command time and timeout, the pocket and record of the load and of
the unload decided, and the pocket that stood at the unload station at the command. -/
structure IndexOp where
  timer : Timer
  load : Option (Nat × Nat)
  unload : Option (Nat × Nat)
  station : Nat
  deriving DecidableEq, Repr

/-- The Press Unit: rotation count and the 24 pockets (R117), press queue (R118), index period P (R119),
index in flight (`none` is READY), last command time and awaited unload with its grace (7.4). -/
structure PressUnit where
  rotation : Nat
  pockets : List (Option Nat)
  queue : List Nat
  period : Nat
  index : Option IndexOp
  lastCommand : Option Clock
  awaited : Option (Nat × Timer)
  deriving DecidableEq, Repr

/-! ### Jacketing and delivery (chapter 8) -/

/-- The jacket stop with its record (8.2). `waiting` carries the jacket-wait timer when it runs
(R138). -/
inductive JacketStop
  | empty
  | waiting (r : Nat) (timer : Option Timer)
  | ejectInFlight (r : Nat) (t : Timer)
  | inCycle (r : Nat) (t : Timer)
  | done (r : Nat)
  | releasing (r : Nat) (t : Timer)
  deriving DecidableEq, Repr

/-- The Delivery Unit: jacket queue (R133), jacket stop, jacket eject-overdue mark (R139) and gate
setting (R143). -/
structure DeliveryUnit where
  jackets : List Identity
  stop : JacketStop
  overdue : Bool
  gate : Lane
  deriving DecidableEq, Repr

/-! ### Zones, guard and field points (chapter 9) -/

inductive ZoneState
  | stopped | running | draining | faulted | tripped
  deriving DecidableEq, Repr

/-- The fault codes, in the order in which the table of R152 first names them. -/
inductive FaultCode
  | untracked | crowded | eyeBlocked | missing | unexpected | encoder | backTravel
  | stagingJam | caseEject | caseOverfeed | casingTimeout | indexTimeout
  | jacketEject | jacketOverfeed | jacketTimeout | jacketJam
  deriving DecidableEq, Repr

/-- What the Zone Controller keeps for one zone (R148). -/
structure ZoneCtl where
  state : ZoneState
  code : Option FaultCode
  further : Bool
  deriving DecidableEq, Repr

/-- The four zones. -/
structure Zones where
  a : ZoneCtl
  b : ZoneCtl
  p : ZoneCtl
  c : ZoneCtl
  deriving DecidableEq, Repr

/-- What is kept of one zone. -/
def Zones.get (zs : Zones) : Zone → ZoneCtl
  | .a => zs.a
  | .b => zs.b
  | .p => zs.p
  | .c => zs.c

/-- Replaces what is kept of one zone. -/
def Zones.set (zs : Zones) (z : Zone) (v : ZoneCtl) : Zones :=
  match z with
  | .a => { zs with a := v }
  | .b => { zs with b := v }
  | .p => { zs with p := v }
  | .c => { zs with c := v }

inductive PointMode
  | off | input | sink | source
  deriving DecidableEq, Repr

inductive Polarity
  | highActive | lowActive
  deriving DecidableEq, Repr

/-- A field point (R158): its three settings, and the level its line stands at (high or low), which for a
point of an output role no command moves (log entry 34). -/
structure Point where
  mode : PointMode
  pullUp : Bool
  polarity : Polarity
  high : Bool
  deriving DecidableEq, Repr

/-- The Guard and Point Unit: the 48 points, the guard state and the arming (R156). -/
structure PointUnit where
  points : List Point
  guardClosed : Bool
  armed : Bool
  deriving DecidableEq, Repr

/-! ### Supervisor link (chapter 10) -/

/-- The receive state (R163); BODY and CHECK carry the length L. -/
inductive RxState
  | hunting
  | length
  | body (l : Nat)
  | check (l : Nat)
  | answering
  deriving DecidableEq, Repr

inductive RestartCause
  | powerOn | requested
  deriving DecidableEq, Repr

/-- The Link Interface: receive state and frame buffer (R163), when the last byte of the frame was taken
(its gap timer), the response frame being sent, and whether the effects of RESTART follow once it has
been sent (R169). `draws` is the model's own: the number of responses framed, which tells the open
bytes of one response from those of the next (log entry 4). -/
structure Link where
  rx : RxState
  buffer : List Byte
  last : Clock
  response : List Byte
  restartDue : Bool
  draws : Nat
  deriving DecidableEq, Repr

/-! ### The state -/

/-- The state of the block, with the queue of the commands that wait, first in, first out. -/
structure State where
  pending : List Instr
  clock : Clock
  cause : RestartCause
  cfg : Cfg
  link : Link
  readers : Readers
  admitSet : BitVec 512
  orders : List Order
  table : BookTable
  trk : Tracking
  gauge : GaugeUnit
  stg : StagingUnit
  press : PressUnit
  dlv : DeliveryUnit
  zones : Zones
  io : PointUnit
  deriving DecidableEq, Repr

/-! ### Power-on values -/

/-- An empty text in reception (R9). -/
def RxText.none : RxText := ⟨[], 0, 0#32⟩

/-- A belt at power-on, with the phase state as its inputs read (R58). -/
def BeltState.initial (phase : Bool × Bool) : BeltState :=
  ⟨0#16, phase, .forward, 0#16, 0, 125, 0, false, false, false⟩

/-- A point's power-on settings by its number: INPUT for points 1–27, OFF for 28–48, pull-up off,
HIGH_ACTIVE (R158); its line keeps its level. -/
def Point.atPowerOn (n : Nat) (high : Bool) : Point :=
  ⟨if n ≤ 27 then .input else .off, false, .highActive, high⟩

/-- A zone at power-on: STOPPED, no code, further faults off (R148). -/
def ZoneCtl.initial : ZoneCtl := ⟨.stopped, Option.none, false⟩

/-- The Book Table at power-on (R54). -/
def BookTable.initial : BookTable := ⟨[], 1, Option.none, [], [], [], [], []⟩

/-- The Staging and Casing Unit at power-on (R115). -/
def StagingUnit.initial : StagingUnit := ⟨[], [], .idle .none, .empty, false⟩

/-- The Press Unit at power-on (R131): P is P_min at its default. -/
def PressUnit.initial : PressUnit :=
  ⟨0, List.replicate 24 Option.none, [], 2500, Option.none, Option.none, Option.none⟩

/-- The Delivery Unit at power-on (R146). -/
def DeliveryUnit.initial : DeliveryUnit := ⟨[], .empty, false, .good⟩

/-- The machine right after power-on (R9, R10, R13, R54, R58, R63, R64, R78, R91, R115, R131, R146,
R148, R156, R158, R161, R163). The lines of all 48 points stand low (log entry 1): the encoder phases
and the guard are taken as they then read, so the guard is OPEN. -/
def State.reset : State where
  pending := []
  clock := 0#32
  cause := .powerOn
  cfg := Cfg.default
  link := ⟨.hunting, [], 0#32, [], false, 0⟩
  readers := ⟨RxText.none, RxText.none, RxText.none, .empty, .empty⟩
  admitSet := 0#512
  orders := []
  table := BookTable.initial
  trk := ⟨⟨BeltState.initial (false, false), BeltState.initial (false, false),
      BeltState.initial (false, false)⟩, ⟨false, false, false, false, false⟩,
      List.replicate 11 Option.none, 0#32⟩
  gauge := ⟨Option.none, Option.none⟩
  stg := StagingUnit.initial
  press := PressUnit.initial
  dlv := DeliveryUnit.initial
  zones := ⟨ZoneCtl.initial, ZoneCtl.initial, ZoneCtl.initial, ZoneCtl.initial⟩
  io := ⟨(List.range 48).map (fun i => Point.atPowerOn (i + 1) false), false, false⟩

end Sys2Proof.Machine
end

