-- ==== Sys2Proof/Machine/Operands.lean ====
section
/-! DEFINITION. The forms operands take: modular positions and times (00_scope §4), identifiers and their
check digit (1.1, 1.2), and the byte layout of request and response bodies (R162). -/

namespace Sys2Proof.Machine

/-! ### Positions, times, rounding (00_scope §4.1–§4.3) -/

/-- s(a − b): the modular difference of two counts, read as a signed number (00_scope §4.2). -/
def sdiff (a b : Count) : Int := (a - b).toInt

/-- The line clock less an earlier time, modulo 2^32 (00_scope §4.1). -/
def elapsed (now earlier : Clock) : Nat := (now - earlier).toNat

/-- Half-up rounding of x/d: floor((2x + d)/(2d)) (00_scope §4.3). -/
def halfUp (x d : Nat) : Nat := (2 * x + d) / (2 * d)

/-- The ceiling of x/d for non-negative integers (00_scope §4.3). -/
def ceilQuot (x d : Nat) : Nat := (x + d - 1) / d

/-- The timer has run for its time. -/
def Timer.due (t : Timer) (now : Clock) : Bool := decide (t.limit ≤ elapsed now t.since)

/-! ### Zones, belts and eyes -/

/-- The zone of a belt. -/
def beltZone : Belt → Zone
  | .a => .a
  | .b => .b
  | .c => .c

/-- The zone whose counter an eye captures (4.2). -/
def eyeBelt : Eye → Belt
  | .gauge | .stageEntry => .a
  | .release | .reject | .casing | .casingExit | .pressEntry => .b
  | .unload | .jacket | .jacketExit | .outfeed => .c

/-- An eye's place in the table of 4.2, from 0. -/
def eyeIndex : Eye → Nat
  | .gauge => 0
  | .stageEntry => 1
  | .release => 2
  | .reject => 3
  | .casing => 4
  | .casingExit => 5
  | .pressEntry => 6
  | .unload => 7
  | .jacket => 8
  | .jacketExit => 9
  | .outfeed => 10

/-- An eye's field point, 7 to 17 (4.2). -/
def eyePoint (e : Eye) : Nat := eyeIndex e + 7

/-- The eye of a watch point (4.3). -/
def watchEye : Watch → Eye
  | .stagingEntry => .stageEntry
  | .casing => .casing
  | .pressEntry => .pressEntry
  | .jacket => .jacket
  | .outfeed => .outfeed

/-- The zone of a watch point (4.3). -/
def watchBelt : Watch → Belt
  | .stagingEntry => .a
  | .casing | .pressEntry => .b
  | .jacket | .outfeed => .c

/-- The distance from a watch point's reference eye to its own (4.3). -/
def watchDistance (c : Cfg) : Watch → Nat
  | .stagingEntry => c.dStage
  | .casing => c.dCase
  | .pressEntry => c.dPress
  | .jacket => c.dJkt
  | .outfeed => c.dOut

/-- The watch points of a belt (4.3). -/
def beltWatches : Belt → List Watch
  | .a => [.stagingEntry]
  | .b => [.casing, .pressEntry]
  | .c => [.jacket, .outfeed]

/-- The watch point whose arrivals a zone's back-pressure holds back (4.4). -/
def bpWatch : Belt → Watch
  | .a => .stagingEntry
  | .b => .pressEntry
  | .c => .jacket

/-- The field points of a belt's encoder phases X and Y (4.1). -/
def phasePoints : Belt → Nat × Nat
  | .a => (1, 2)
  | .b => (3, 4)
  | .c => (5, 6)

/-! ### Identifiers (R1, R2) -/

/-- A decimal digit 0 to 9. -/
def isDigit (c : Byte) : Bool := decide (0x30 ≤ c.toNat) && decide (c.toNat ≤ 0x39)

/-- The value of a digit character. -/
def digitVal (c : Byte) : Nat := c.toNat - 0x30

/-- The decimal value of a run of digits. -/
def decimal (cs : List Byte) : Nat := cs.foldl (fun n c => 10 * n + digitVal c) 0

/-- The item kind by the letter B, C or J (R1). -/
def itemOfLetter (c : Byte) : Option Item :=
  if c = 0x42#8 then some .blockItem
  else if c = 0x43#8 then some .caseItem
  else if c = 0x4A#8 then some .jacketItem
  else none

/-- The item letter. -/
def itemLetter : Item → Byte
  | .blockItem => 0x42#8
  | .caseItem => 0x43#8
  | .jacketItem => 0x4A#8

/-- The value of the item letter in the check sum: 1 for B, 2 for C, 3 for J (R2). -/
def itemValue : Item → Nat
  | .blockItem => 1
  | .caseItem => 2
  | .jacketItem => 3

/-- The weighted sum of values at alternating weights, the first of weight `w` and 3 and 1 in turn. -/
def weightedSum : Nat → List Nat → Nat
  | _, [] => 0
  | w, v :: vs => w * v + weightedSum (4 - w) vs

/-- The expected check digit from the values of the first eleven characters (R2). -/
def checkDigit (values : List Nat) : Nat := (10 - weightedSum 3 values % 10) % 10

/-- The outcome of a scan (R4). -/
inductive ScanOutcome
  | badForm
  | badCheck
  | valid (i : Ident)
  deriving DecidableEq, Repr

/-- The form test of R1: the values of a text that has the form of an identifier. -/
def identForm (cs : List Byte) : Option Ident :=
  if cs.length = 12 then
    match itemOfLetter (cs.getD 10 0#8) with
    | some item =>
      if (cs.take 10).all isDigit && isDigit (cs.getD 11 0#8)
          && decide (decimal (cs.take 6) ≠ 0) && decide (decimal ((cs.drop 6).take 4) ≠ 0) then
        some ⟨decimal (cs.take 6), decimal ((cs.drop 6).take 4), item⟩
      else none
    | none => none
  else none

/-- Judges an ended text of `count` characters by the tests of R4, in their order. -/
def judgeText (stored : List Byte) (count : Nat) : ScanOutcome :=
  if count > 20 then .badForm
  else if count ≠ 12 then .badForm
  else
    match identForm stored with
    | none => .badForm
    | some i =>
      if digitVal (stored.getD 11 0#8) =
          checkDigit ((stored.take 10).map digitVal ++ [itemValue i.item]) then .valid i
      else .badCheck

/-- The decimal digits of `n` in `k` places, leading zeros kept (1.1). -/
def digitsOf : Nat → Nat → List Nat
  | 0, _ => []
  | k + 1, n => digitsOf k (n / 10) ++ [n % 10]

/-- The twelve characters of an identifier (1.1). -/
def identText (i : Ident) : List Byte :=
  let digits := digitsOf 6 i.order ++ digitsOf 4 i.copy
  digits.map (fun d => BitVec.ofNat 8 (0x30 + d)) ++
    [itemLetter i.item, BitVec.ofNat 8 (0x30 + checkDigit (digits ++ [itemValue i.item]))]

/-! ### Bytes of requests (R162) -/

/-- A number sent most significant byte first. -/
def readBE (bs : List Byte) : Nat := bs.foldl (fun n b => 256 * n + b.toNat) 0

/-- A body cut into numbers of the given widths; `none` when its length is not that of the layout. -/
def splitFields : List Nat → List Byte → Option (List Nat)
  | [], [] => some []
  | [], _ :: _ => none
  | w :: ws, bs =>
    if bs.length < w then none
    else (splitFields ws (bs.drop w)).map (readBE (bs.take w) :: ·)

/-- A number in `w` bytes, most significant byte first. -/
def beBytes : Nat → Nat → List Byte
  | 0, _ => []
  | w + 1, n => beBytes w (n / 256) ++ [BitVec.ofNat 8 n]

def inRange (lo hi v : Nat) : Bool := decide (lo ≤ v) && decide (v ≤ hi)

/-! ### Named values, each by its place in the list that gives its kind (R162) -/

def zoneOfCode : Nat → Option Zone
  | 0 => some .a
  | 1 => some .b
  | 2 => some .p
  | 3 => some .c
  | _ => none

def zoneCode : Zone → Nat
  | .a => 0
  | .b => 1
  | .p => 2
  | .c => 3

def matchOfCode : Nat → Option MatchMode
  | 0 => some .copyExact
  | 1 => some .title
  | _ => none

def matchCode : MatchMode → Nat
  | .copyExact => 0
  | .title => 1

def jacketModeOfCode : Nat → Option JacketMode
  | 0 => some .none
  | 1 => some .required
  | _ => none

def jacketModeCode : JacketMode → Nat
  | .none => 0
  | .required => 1

/-- A flag is sent as 1 for on and 0 for off (log entry 9). -/
def flagOfCode : Nat → Option Bool
  | 0 => some false
  | 1 => some true
  | _ => none

def flagCode (b : Bool) : Nat := if b then 1 else 0

def pointModeOfCode : Nat → Option PointMode
  | 0 => some .off
  | 1 => some .input
  | 2 => some .sink
  | 3 => some .source
  | _ => none

def pointModeCode : PointMode → Nat
  | .off => 0
  | .input => 1
  | .sink => 2
  | .source => 3

def polarityOfCode : Nat → Option Polarity
  | 0 => some .highActive
  | 1 => some .lowActive
  | _ => none

def polarityCode : Polarity → Nat
  | .highActive => 0
  | .lowActive => 1

def orderStateCode : OrderState → Nat
  | .openOrder => 0
  | .held => 1
  | .complete => 2

def copyStateCode : CopyState → Nat
  | .notSeen => 0
  | .inProcess => 1
  | .finished => 2
  | .rejected => 3

def reasonCode : Reason → Nat
  | .foreign => 0
  | .noRead => 1
  | .ambiguous => 2
  | .wrongItem => 3
  | .duplicate => 4
  | .overCount => 5
  | .noOrder => 6
  | .orderHeld => 7
  | .noCase => 8
  | .gaugeFail => 9
  | .spread => 10
  | .wrongSize => 11
  | .spineTight => 12
  | .spineLoose => 13
  | .casingFault => 14
  | .casingTimeout => 15
  | .suspect => 16
  | .requested => 17

def bindingCode : Binding → Nat
  | .bound => 0
  | .early => 1
  | .unbound _ => 2

/-- The verdicts in the order of 3.2; the table of R89 has another (log entry 32). -/
def verdictCode : Verdict → Nat
  | .fit => 0
  | .looseOk => 1
  | .tight => 2
  | .loose => 3

def jacketResultCode : JacketResult → Nat
  | .jacketed => 0
  | .unjacketed => 1

/-- The lanes in the order of 3.2; the table of R142 has another (log entry 32). -/
def laneCode : Lane → Nat
  | .good => 0
  | .inspect => 1
  | .reject => 2

def lifeCode : Life → Nat
  | .gauging => 0
  | .toStaging => 1
  | .staged => 2
  | .toCasing => 3
  | .casing => 4
  | .toPress => 5
  | .pressQueued => 6
  | .pressing => 7
  | .toJacket => 8
  | .atJacket => 9
  | .toOutfeed => 10
  | .retired => 11

/-- The outcomes in the order of 3.2; the table of 3.7 has another (log entry 32). -/
def outcomeCode : BookOutcome → Nat
  | .good => 0
  | .inspect => 1
  | .rejected _ => 2
  | .lost => 3
  | .removed => 4

def zoneStateCode : ZoneState → Nat
  | .stopped => 0
  | .running => 1
  | .draining => 2
  | .faulted => 3
  | .tripped => 4

def faultCodeCode : FaultCode → Nat
  | .untracked => 0
  | .crowded => 1
  | .eyeBlocked => 2
  | .missing => 3
  | .unexpected => 4
  | .encoder => 5
  | .backTravel => 6
  | .stagingJam => 7
  | .caseEject => 8
  | .caseOverfeed => 9
  | .casingTimeout => 10
  | .indexTimeout => 11
  | .jacketEject => 12
  | .jacketOverfeed => 13
  | .jacketTimeout => 14
  | .jacketJam => 15

def directionCode : Direction → Nat
  | .forward => 0
  | .reverse => 1

def causeCode : RestartCause → Nat
  | .powerOn => 0
  | .requested => 1

/-! ### Statuses and response bodies (10.3, R162) -/

inductive Status
  | ok | unknownRequest | badLength | outOfRange | notFound | tableFull | exists_ | inUse
  | wrongState | guardOpen | pointMode | tooLate | persists
  deriving DecidableEq, Repr

/-- The status values of 10.3. -/
def statusByte : Status → Byte
  | .ok => 0x00#8
  | .unknownRequest => 0x01#8
  | .badLength => 0x02#8
  | .outOfRange => 0x03#8
  | .notFound => 0x04#8
  | .tableFull => 0x05#8
  | .exists_ => 0x06#8
  | .inUse => 0x07#8
  | .wrongState => 0x08#8
  | .guardOpen => 0x09#8
  | .pointMode => 0x0A#8
  | .tooLate => 0x0B#8
  | .persists => 0x0C#8

/-- A response body: bytes the spec gives, and `none` for a byte it leaves open (log entry 4). -/
abbrev Body := List (Option Byte)

/-- A number in a body, in `w` bytes. -/
def num (w n : Nat) : Body := (beBytes w n).map some

/-- A flag or named value in a body. -/
def one (n : Nat) : Body := num 1 n

/-- `w` bytes whose content the spec leaves open. -/
def openBytes (w : Nat) : Body := List.replicate w none

/-- A field that may be absent: a presence byte, then its `w` bytes, whose place is kept when it is
absent (R162). -/
def optional (w : Nat) : Option Body → Body
  | none => one 0 ++ openBytes w
  | some b => one 1 ++ b

def optNum (w : Nat) (v : Option Nat) : Body := optional w (v.map (num w))

def identBody (i : Ident) : Body := (identText i).map some

/-- A list of lines, preceded by the number of its lines (R162). -/
def lines (ls : List Body) : Body := one ls.length ++ ls.flatten

/-- A response before it is framed. -/
structure Reply where
  status : Status
  body : Body
  deriving DecidableEq, Repr

/-- A refusal with an empty body (R164). -/
def refuse (st : Status) : Reply := ⟨st, []⟩

/-- The bytes of a body, each open byte taken from the free value of response number `draw`. -/
def fillBody (draw : Nat) (b : Body) : List Byte :=
  b.mapIdx (fun i x => x.getD (Config.openByte draw i))

/-- A response frame: start 0x5A, length of code, status and body, request code + 0x80, status, body,
check byte (R162). -/
def responseFrame (code : Byte) (st : Status) (body : List Byte) : List Byte :=
  let counted := BitVec.ofNat 8 (body.length + 2) :: (code + 0x80#8) :: statusByte st :: body
  0x5A#8 :: (counted ++ [checkByte counted])

/-- A belt speed in two bytes, a negative one as 65536 plus the speed (R162); outside the two bytes it
is a free value (log entry 5). -/
def speedBytes (v : Int) : Body :=
  if 0 ≤ v ∧ v ≤ 65535 then num 2 v.toNat
  else if -65535 ≤ v ∧ v < 0 then num 2 (65536 + v).toNat
  else num 2 (Config.speedOutside v).toNat

/-! ### The configuration as numbers, in the order of R166 -/

/-- One row for each configuration value: its bytes and its own range (04 §4.5, 05 §5.8, R48, 06 §6.11,
07 §7.9, 08 §8.10, 10 §10.5). The lower end P_min of P_max's range is tested with the constraints. -/
def cfgRows : List (Nat × Nat × Nat) :=
  [(2, 20, 400), (2, 20, 400), (2, 20, 400), (1, 2, 200), (1, 2, 200), (1, 2, 200),
   (2, 3, 1000), (2, 3, 1000), (2, 3, 1000), (2, 8, 1000), (2, 8, 1000), (2, 8, 1000),
   (2, 1, 32767), (2, 1, 32767), (2, 1, 32767), (2, 1, 32767), (2, 1, 32767)] ++
  [(2, 1, 32767), (2, 1, 32767), (2, 1, 32767), (2, 1, 32767), (2, 1, 32767), (2, 1, 32767),
   (2, 0, 9999), (2, 1, 32767), (1, 1, 8)] ++
  [(2, 200, 10000), (2, 200, 10000), (2, 500, 30000), (4, 1000, 600000), (4, 1000, 300000),
   (1, 8, 23), (2, 1500, 20000), (2, 0, 60000), (2, 500, 30000), (2, 200, 10000),
   (2, 200, 10000), (2, 500, 30000), (2, 500, 60000), (1, 1, 48)]

/-- The configuration values in order. -/
def cfgValues (c : Cfg) : List Nat :=
  [c.scale.a, c.scale.b, c.scale.c, c.window.a, c.window.b, c.window.c,
   c.margin.a, c.margin.b, c.margin.c, c.backLimit.a, c.backLimit.b, c.backLimit.c,
   c.dStage, c.dCase, c.dPress, c.dJkt, c.dOut] ++
  [c.s1, c.s2, c.s3, c.s4, c.maxSpan, c.readGrace, c.spreadLimit, c.minPitch, c.reserve] ++
  [c.releaseTimeout, c.caseEjectTimeout, c.casingTimeout, c.earlyHold, c.caseWait,
   c.reach, c.pMin, c.pMax, c.indexTimeout, c.unloadGrace,
   c.jacketEjectTimeout, c.jacketCycleTimeout, c.jacketWait, c.threshold]

/-- The configuration from its values in order. -/
def cfgOfValues (v : List Nat) : Cfg where
  scale := ⟨v.getD 0 0, v.getD 1 0, v.getD 2 0⟩
  window := ⟨v.getD 3 0, v.getD 4 0, v.getD 5 0⟩
  margin := ⟨v.getD 6 0, v.getD 7 0, v.getD 8 0⟩
  backLimit := ⟨v.getD 9 0, v.getD 10 0, v.getD 11 0⟩
  dStage := v.getD 12 0
  dCase := v.getD 13 0
  dPress := v.getD 14 0
  dJkt := v.getD 15 0
  dOut := v.getD 16 0
  s1 := v.getD 17 0
  s2 := v.getD 18 0
  s3 := v.getD 19 0
  s4 := v.getD 20 0
  maxSpan := v.getD 21 0
  readGrace := v.getD 22 0
  spreadLimit := v.getD 23 0
  minPitch := v.getD 24 0
  reserve := v.getD 25 0
  releaseTimeout := v.getD 26 0
  caseEjectTimeout := v.getD 27 0
  casingTimeout := v.getD 28 0
  earlyHold := v.getD 29 0
  caseWait := v.getD 30 0
  reach := v.getD 31 0
  pMin := v.getD 32 0
  pMax := v.getD 33 0
  indexTimeout := v.getD 34 0
  unloadGrace := v.getD 35 0
  jacketEjectTimeout := v.getD 36 0
  jacketCycleTimeout := v.getD 37 0
  jacketWait := v.getD 38 0
  threshold := v.getD 39 0

/-- Every value lies in its own range (R166, step 3). -/
def cfgInRange (v : List Nat) : Bool :=
  (v.zip cfgRows).all (fun (x, _, lo, hi) => inRange lo hi x)

/-- The bytes of a full configuration. -/
def cfgBody (c : Cfg) : Body :=
  ((cfgValues c).zip cfgRows).flatMap (fun (x, w, _) => num w x)

/-- The constraints among the configuration values: R77, the ascending sampling points of R90 and the
press bounds of R132 (R166, step 4). -/
def cfgConstraints (c : Cfg) : Bool :=
  decide (c.maxSpan + c.readGrace < c.minPitch) &&
  decide (2 * c.window.a + 1 ≤ c.minPitch) &&
  decide ((max c.s4 (c.maxSpan + c.readGrace) : Int) < (c.dStage : Int) - c.window.a) &&
  decide (c.dStage ≤ 32767 ∧ c.dCase ≤ 32767 ∧ c.dPress ≤ 32767 ∧ c.dJkt ≤ 32767 ∧
    c.dOut ≤ 32767) &&
  decide (c.window.a < c.margin.a ∧ c.margin.a < c.dStage) &&
  decide (c.window.b < c.margin.b ∧ c.margin.b < c.dCase ∧ c.margin.b < c.dPress) &&
  decide (c.window.c < c.margin.c ∧ c.margin.c < c.dJkt ∧ c.margin.c < c.dOut) &&
  decide (c.s1 < c.s2 ∧ c.s2 < c.s3 ∧ c.s3 < c.s4) &&
  decide (c.pMin ≤ c.pMax)

end Sys2Proof.Machine
end

