-- ==== Sys2Proof/Machine/Flags.lean ====
section
/-! DEFINITION. What the state tells without changing it: lookups, the watch points' heads and targets, the
back-pressure test, operations in flight and drain conditions, the readings of the input points, and
every output as its owner asks for it and as it is driven. -/

namespace Sys2Proof.Machine

/-! ### Records and orders -/

/-- A record is live until it retires (R34). -/
def Book.live (b : Book) : Bool := decide (b.life ≠ .retired)

/-- The order number of a record, with its block identifier (3.2). -/
def Book.order? (b : Book) : Option Nat := b.ident.map (·.order)

/-- The copy number of a record. -/
def Book.copy? (b : Book) : Option Nat := b.ident.map (·.copy)

/-- The record held in a slot, live or retired; a slot that holds none is free (R34). -/
def State.book? (s : State) (r : Nat) : Option Book := s.table.books.find? (fun b => b.slot == r)

/-- The order entry of an order number (R13). -/
def State.order? (s : State) (n : Nat) : Option Order := s.orders.find? (fun o => o.tmpl.order == n)

/-- The free slots: 96 less the slots that hold a record (R34). -/
def State.freeSlots (s : State) : Nat := 96 - s.table.books.length

/-- The number of live records (R34). -/
def State.liveCount (s : State) : Nat := s.table.books.countP Book.live

/-- The outcome count (R34, R47). -/
def State.outcomeCount (s : State) : Nat := s.table.outcomes.length

/-- The lowest-numbered slot that holds no record, if one is free (R34). -/
def State.lowestFreeSlot? (s : State) : Option Nat :=
  ((List.range 96).map (· + 1)).find? (fun n => !(s.table.books.any (fun b => b.slot == n)))

/-- The lowest-numbered free entry slot of the Order Table (R13). -/
def State.lowestFreeEntry? (s : State) : Option Nat :=
  ((List.range 24).map (· + 1)).find? (fun n => !(s.orders.any (fun o => o.slot == n)))

/-- The Admit Set index of an order number: floor(((N × 40503) mod 65536) / 128) (R10). -/
def admitIndex (n : Nat) : Nat := n * 40503 % 65536 / 128

/-- An order number is expected when its Admit Set entry is set (R10). -/
def State.expected (s : State) (n : Nat) : Bool := s.admitSet.getLsbD (admitIndex n)

/-! ### Zones and operations in flight -/

/-- The state of a zone. -/
def State.zoneState (s : State) (z : Zone) : ZoneState := (s.zones.get z).state

/-- A zone that is RUNNING or DRAINING. -/
def State.active (s : State) (z : Zone) : Bool :=
  decide (s.zoneState z = .running ∨ s.zoneState z = .draining)

/-- A staging release is in flight (6.3). -/
def StagingSide.releasing : StagingSide → Bool
  | .forwardInFlight _ | .rejectInFlight _ => true
  | .idle _ | .ejectInFlight _ => false

/-- A case eject is in flight. -/
def StagingSide.ejecting : StagingSide → Bool
  | .ejectInFlight _ => true
  | .idle _ | .forwardInFlight _ | .rejectInFlight _ => false

/-- A casing cycle or a casing release is in flight. -/
def CasingSide.inFlight : CasingSide → Bool
  | .inCycle _ _ | .releasing _ _ => true
  | .empty | .approach _ | .cyclePending _ | .cased _ => false

/-- The record in the casing section (R41). -/
def CasingSide.record? : CasingSide → Option Nat
  | .empty => none
  | .approach r | .cyclePending r | .inCycle r _ | .cased r | .releasing r _ => some r

/-- A jacket eject, jacket cycle or jacket release is in flight (R135). -/
def JacketStop.inFlight : JacketStop → Bool
  | .ejectInFlight _ _ | .inCycle _ _ | .releasing _ _ => true
  | .empty | .waiting _ _ | .done _ => false

/-- The record at the jacket stop (R41). -/
def JacketStop.record? : JacketStop → Option Nat
  | .empty => none
  | .waiting r _ | .ejectInFlight r _ | .inCycle r _ | .done r | .releasing r _ => some r

/-- The stop is full for back-pressure: occupied in any state but RELEASING (8.2, R135). -/
def JacketStop.full : JacketStop → Bool
  | .waiting _ _ | .ejectInFlight _ _ | .inCycle _ _ | .done _ => true
  | .empty | .releasing _ _ => false

/-- An operation is in flight for the zone (R105, R123, R127, R135, R154). -/
def State.inFlight (s : State) : Zone → Bool
  | .a => s.stg.side.releasing
  | .b => s.stg.side.releasing || s.stg.side.ejecting || s.stg.casing.inFlight
  | .p => s.press.index.isSome
  | .c => s.press.awaited.isSome || s.dlv.stop.inFlight

/-- An operation of the line is in flight (R168). -/
def State.anyInFlight (s : State) : Bool :=
  s.inFlight .a || s.inFlight .b || s.inFlight .p || s.inFlight .c

/-- The end condition of a zone's drain (R150). -/
def State.drained (s : State) : Zone → Bool
  | .a => s.table.transit.isEmpty && !s.stg.side.releasing
  | .b => s.stg.casing.record?.isNone && s.table.pressApproach.isEmpty && !s.inFlight .b
  | .p => s.press.pockets.all Option.isNone && s.press.index.isNone
  | .c => s.table.jacketApproach.isEmpty && s.dlv.stop.record?.isNone && s.table.delivery.isEmpty
      && !s.inFlight .c

/-! ### Watch points (4.3) -/

/-- A record is in the head state of a watch point (the table of 4.3). -/
def headState : Watch → Life → Bool
  | .stagingEntry, l => decide (l = .gauging ∨ l = .toStaging)
  | .casing, l => decide (l = .toCasing)
  | .pressEntry, l => decide (l = .toPress)
  | .jacket, l => decide (l = .toJacket)
  | .outfeed, l => decide (l = .toOutfeed)

/-- The first record of the collection a watch point serves (4.3). -/
def State.firstServed (s : State) : Watch → Option Nat
  | .stagingEntry => s.table.transit.head?
  | .casing => s.stg.casing.record?
  | .pressEntry => s.table.pressApproach.head?
  | .jacket => s.table.jacketApproach.head?
  | .outfeed => s.table.delivery.head?

/-- The head of a watch point (R66). -/
def State.head? (s : State) (w : Watch) : Option Book :=
  match (s.firstServed w).bind s.book? with
  | some b => if headState w b.life then some b else none
  | none => none

/-- The head of an armed watch point, with its target (R66): a head without a reference has none. -/
def State.target? (s : State) (w : Watch) : Option (Book × Count) :=
  match s.head? w with
  | some b => b.position.map (fun p => (b, p.2 + BitVec.ofNat 16 (watchDistance s.cfg w)))
  | none => none

/-- The belt of a zone as the Tracking Unit keeps it. -/
def State.belt (s : State) (z : Belt) : BeltState := s.trk.belts.get z

/-- s(count − target) lies within the window of the watch point's zone (R67). -/
def State.inWindow (s : State) (w : Watch) (target : Count) : Bool :=
  let d := sdiff (s.belt (watchBelt w)).count target
  let width : Int := s.cfg.window.get (watchBelt w)
  decide (-width ≤ d ∧ d ≤ width)

/-! ### Back-pressure (4.4) -/

/-- What a zone delivers into is full (4.4). -/
def State.downstreamFull (s : State) : Belt → Bool
  | .a => decide (4 ≤ s.stg.queue.length)
  | .b => decide (3 ≤ s.press.queue.length)
  | .c => s.dlv.stop.full

/-- The back-pressure flag of a zone as the test of R74 leaves it. -/
def State.bpNext (s : State) (z : Belt) : Bool :=
  if !s.downstreamFull z then false
  else if (s.head? (bpWatch z)).isNone then false
  else if (s.belt z).backPressure then true
  else
    match s.target? (bpWatch z) with
    | some (_, t) => decide (-(s.cfg.margin.get z : Int) ≤ sdiff (s.belt z).count t)
    | none => false

/-! ### Field points (9.7) -/

/-- A field point by its number, 1 to 48. -/
def State.point (s : State) (n : Nat) : Point :=
  (s.io.points[n - 1]?).getD ⟨.off, false, .highActive, false⟩

/-- The reading of an input role: active when the point is in INPUT mode and its level is the one its
polarity calls active (R158). -/
def Point.reading (p : Point) : Bool :=
  decide (p.mode = .input) &&
    (match p.polarity with
     | .highActive => p.high
     | .lowActive => !p.high)

/-- The reading of point `n`. -/
def State.reads (s : State) (n : Nat) : Bool := (s.point n).reading

/-- The point has an input role (R158). -/
def isInputRole (n : Nat) : Bool := decide (n ≤ 27)

/-- A point's mode is suitable for its role (R160). -/
def pointSuitable (n : Nat) (p : Point) : Bool :=
  if isInputRole n then decide (p.mode = .input)
  else decide (p.mode = .sink ∨ p.mode = .source)

/-- The points that serve the roles of a zone, in ascending order (R160). -/
def zonePoints : Zone → List Nat
  | .a => [1, 2, 7, 8, 27, 28, 31]
  | .b => [3, 4, 9, 10, 11, 12, 13, 18, 19, 20, 21, 27, 29, 32, 33, 34, 35, 36, 37]
  | .p => [22, 27, 38, 39, 40, 48]
  | .c => [5, 6, 14, 15, 16, 17, 23, 24, 25, 26, 27, 30, 41, 42, 43, 44, 45, 46]

/-- The first point of a zone, in ascending order, that is not in a suitable mode (R149). -/
def State.unsuitable? (s : State) (z : Zone) : Option Nat :=
  (zonePoints z).find? (fun n => !pointSuitable n (s.point n))

/-! ### Outputs -/

/-- The infeed permit (R48). -/
def State.infeedPermit (s : State) : Bool :=
  decide (s.zoneState .a = .running) && !(s.belt .a).backPressure &&
    decide (s.cfg.reserve < s.freeSlots) && decide (s.table.transit.length < 8) && s.io.armed

/-- The case feed permit (R95). -/
def State.caseFeedPermit (s : State) : Bool :=
  decide (s.stg.cases.length < 6) && decide (s.zoneState .b ≠ .tripped) && s.io.armed

/-- The jacket feed permit (R134). -/
def State.jacketFeedPermit (s : State) : Bool :=
  decide (s.dlv.jackets.length < 6) && decide (s.zoneState .c ≠ .tripped) && s.io.armed

/-- The motor output of a belt zone (R155). -/
def State.motor (s : State) (z : Belt) : Bool :=
  s.active (beltZone z) && !(s.belt z).backPressure && s.io.armed

/-- The PRESS_MOTOR output (R155). -/
def State.pressMotor (s : State) : Bool := s.active .p && s.io.armed

/-- The number of order entries whose completion unreported flag is on (R165). -/
def State.unreportedCount (s : State) : Nat := s.orders.countP (·.unreported)

/-- The ATTENTION request (R167). -/
def State.attention (s : State) : Bool :=
  ([Zone.a, .b, .p, .c].any (fun z =>
      decide (s.zoneState z = .faulted ∨ s.zoneState z = .tripped))) ||
    decide (s.cfg.threshold ≤ s.outcomeCount) || decide (1 ≤ s.unreportedCount)

/-- What the owner of an output role asks for (R155, R158; 6.3, 7.4, 8.2, R143, R167). -/
def State.ownerRequest (s : State) : Nat → Bool
  | 28 => s.motor .a
  | 29 => s.motor .b
  | 30 => s.motor .c
  | 31 => s.infeedPermit
  | 32 => match s.stg.side with | .forwardInFlight _ => true | _ => false
  | 33 => match s.stg.side with | .rejectInFlight _ => true | _ => false
  | 34 => s.caseFeedPermit
  | 35 => s.stg.side.ejecting
  | 36 => match s.stg.casing with | .inCycle _ _ => true | _ => false
  | 37 => match s.stg.casing with | .releasing _ _ => true | _ => false
  | 38 => s.press.index.isSome
  | 39 => match s.press.index with | some op => op.load.isSome | none => false
  | 40 => match s.press.index with | some op => op.unload.isSome | none => false
  | 41 => s.jacketFeedPermit
  | 42 => match s.dlv.stop with | .ejectInFlight _ _ => true | _ => false
  | 43 => match s.dlv.stop with | .inCycle _ _ => true | _ => false
  | 44 => match s.dlv.stop with | .releasing _ _ => true | _ => false
  | 45 => decide (s.dlv.gate = .inspect)
  | 46 => decide (s.dlv.gate = .reject)
  | 47 => s.attention
  | 48 => s.pressMotor
  | _ => false

/-- An output role that actuates: every one of points 28 to 48 but ATTENTION, point 47 (R155). -/
def isActuator (n : Nat) : Bool := decide (28 ≤ n) && decide (n ≤ 48) && decide (n ≠ 47)

/-- Whether an output point is driven on: only in SINK or SOURCE mode, as its owner asks, and, for an
actuator, only while the guard is closed and the outputs are armed (R155, R158). -/
def State.driven (s : State) (n : Nat) : Bool :=
  decide ((s.point n).mode = .sink ∨ (s.point n).mode = .source) && s.ownerRequest n &&
    (!isActuator n || (s.io.armed && s.io.guardClosed))

/-! ### Press (chapter 7) -/

/-- A PRESSING record whose dwell has passed at time `now` (R117). -/
def Book.satisfied (b : Book) (now : Clock) : Bool :=
  match b.press, b.tmpl with
  | some d, some t => decide (t.dwell ≤ elapsed now d.loadTime)
  | _, _ => false

/-- The record in a pocket. -/
def State.pocket? (s : State) (p : Nat) : Option Nat := (s.press.pockets[p]?).join

/-- The pocket at the unload station: (rotation − K) mod 24 (R117). -/
def State.unloadPocket (s : State) : Nat := (s.press.rotation + 24 - s.cfg.reach) % 24

/-- The dwell of the record in a slot, from its template copy. -/
def State.dwellOf (s : State) (r : Nat) : Option Nat := (s.book? r).bind (fun b => b.tmpl.map (·.dwell))

/-- The dwells in view: of the queued records, and of those in pockets not yet satisfied (R119). -/
def State.dwellsInView (s : State) : List Nat :=
  s.press.queue.filterMap s.dwellOf ++
    (s.press.pockets.filterMap id).filterMap (fun r =>
      match s.book? r with
      | some b => if b.satisfied s.clock then none else b.tmpl.map (·.dwell)
      | none => none)

/-- The index period P by R119. -/
def State.periodNow (s : State) : Nat :=
  match s.dwellsInView with
  | [] => s.cfg.pMin
  | ds => max s.cfg.pMin (min (ceilQuot (ds.foldl max 0) s.cfg.reach) s.cfg.pMax)

/-- The conditions of an index command other than the time since the last one (R121). -/
def State.indexReady (s : State) : Bool :=
  s.press.index.isNone && s.press.awaited.isNone && s.active .p && s.io.armed &&
    (s.press.pockets.any Option.isSome || !s.press.queue.isEmpty)

/-- The time P since the last command, as a timer; there is none before the first command (R121). -/
def State.indexTimer (s : State) : Option Timer :=
  s.press.lastCommand.map (fun t => ⟨t, s.press.period⟩)

end Sys2Proof.Machine
end

