-- ==== Sys2Proof/Machine/Ops.lean ====
section
/-! DEFINITION. The operations the blocks share: time, records and their retirement, orders and their
accounting, identification and the verdict, the wanted test, zone states and faults. -/

namespace Sys2Proof.Machine

/-! ### Time -/

/-- A timer started now. -/
def State.startTimer (s : State) (limit : Nat) : Timer := ⟨s.clock, limit⟩

/-- The moment a timer expires: the line clock stands at its expiry, or later if it has passed it
(log entry 10). -/
def State.reach (s : State) (t : Timer) : State :=
  if t.due s.clock then s else { s with clock := t.since + BitVec.ofNat 32 t.limit }

/-! ### Records (chapter 3) -/

/-- Changes the record held in a slot. -/
def State.updBook (s : State) (r : Nat) (f : Book → Book) : State :=
  { s with table := { s.table with
      books := s.table.books.map (fun b => if b.slot == r then f b else b) } }

/-- Asks for a reject-pending reason: set on a live record that carries none (R45). -/
def State.setReason (s : State) (r : Nat) (why : Reason) : State :=
  s.updBook r (fun b => if b.live && b.reason.isNone then { b with reason := some why } else b)

/-- Makes a record UNBOUND with a reason, which also becomes its reject-pending reason unless it carries
one; a binding that is already BOUND or UNBOUND stays (R37). -/
def State.unbind (s : State) (r : Nat) (why : Reason) : State :=
  s.updBook r (fun b =>
    if b.live then
      match b.binding with
      | none | some .early =>
        { b with binding := some (.unbound why), reason := some (b.reason.getD why) }
      | some .bound | some (.unbound _) => b
    else b)

/-- Stores a jacket result (R137, R140). -/
def State.setJacketResult (s : State) (r : Nat) (res : JacketResult) : State :=
  s.updBook r (fun b => { b with jacketResult := some res })

/-- The next-sequence counter after `n`: 4,294,967,295 is followed by 1 (R35). -/
def nextSequence (n : Nat) : Nat := if n = 4294967295 then 1 else n + 1

/-- A record at its creation (R36). -/
def newBook (slot seq : Nat) (now : Clock) (lead : Count) : Book where
  slot := slot
  seq := seq
  created := now
  ident := none
  binding := none
  badRead := false
  tmpl := none
  lead := lead
  trail := none
  samples := [none, none, none, none]
  thickness := none
  lm := none
  spread := none
  sr := none
  verdict := none
  reason := none
  marriedCase := none
  marriedJacket := none
  jacketResult := none
  proof := false
  lane := none
  life := .gauging
  position := some (.a, lead)
  press := none
  outcome := none
  retiredAt := none
  lifeAtRetirement := none

/-! ### Orders (chapter 2) -/

/-- Changes the entry of an order number. -/
def State.updOrder (s : State) (n : Nat) (f : Order → Order) : State :=
  { s with orders := s.orders.map (fun o => if o.tmpl.order == n then f o else o) }

/-- A counter raised by 1; past the end of its range it holds a free value (2.1, log entry 3). -/
def countUp (order which : Nat) (now : Clock) (c : Nat) : Nat :=
  if c < 4294967295 then c + 1 else (Config.counterPast order which now).toNat

/-- The state of copy `c` of an order (2.7). -/
def Order.copyState? (o : Order) (c : Nat) : Option CopyState :=
  if c = 0 then none else o.copyMap[c - 1]?

/-- Sets the state of copy `c`. -/
def Order.setCopy (o : Order) (c : Nat) (st : CopyState) : Order :=
  { o with copyMap := o.copyMap.set (c - 1) st }

/-- A case ejection counted against its order, if its identity is an identifier whose order is in the
table (R23). -/
def State.countCaseEjection (s : State) : Identity → State
  | .ident i => s.updOrder i.order (fun o => { o with counters :=
      { o.counters with casesEjected := countUp i.order 7 s.clock o.counters.casesEjected } })
  | .unreadable | .conflict => s

/-- A jacket ejection counted against its order (R23). -/
def State.countJacketEjection (s : State) : Identity → State
  | .ident i => s.updOrder i.order (fun o => { o with counters :=
      { o.counters with jacketsEjected := countUp i.order 8 s.clock o.counters.jacketsEjected } })
  | .unreadable | .conflict => s

/-- An order meets its completion test (R30). -/
def Order.meetsCompletion (o : Order) : Bool :=
  match o.tmpl.mode with
  | .copyExact => o.copyMap.all (· == .finished)
  | .title => o.counters.good + o.counters.inspect == o.copies

/-- The completion test after a GOOD or INSPECT retirement (R30). -/
def Order.testCompletion (o : Order) : Order :=
  if o.meetsCompletion && decide (o.state ≠ .complete) then
    { o with state := .complete, unreported := true }
  else o

/-- A retirement accounted to its order: the outcome counter up, in_process down, and for a COPY_EXACT
order the copy FINISHED or REJECTED (R29), with the completion test (R30). -/
def Order.account (o : Order) (out : BookOutcome) (copy : Nat) (now : Clock) : Order :=
  let n := o.tmpl.order
  let k := { o.counters with inProcess := o.counters.inProcess - 1 }
  match out with
  | .good =>
    ({ o with counters := { k with good := countUp n 2 now k.good } }.setCopy copy
      .finished).testCompletion
  | .inspect =>
    ({ o with counters := { k with inspect := countUp n 3 now k.inspect } }.setCopy copy
      .finished).testCompletion
  | .rejected _ =>
    { o with counters := { k with rejected := countUp n 4 now k.rejected } }.setCopy copy .rejected
  | .lost =>
    { o with counters := { k with lost := countUp n 5 now k.lost } }.setCopy copy .rejected
  | .removed =>
    { o with counters := { k with removed := countUp n 6 now k.removed } }.setCopy copy .rejected

/-! ### Retirement (R46) -/

/-- The states from which an outcome can be reached (the table of 3.7). -/
def outcomeFrom : BookOutcome → Life → Bool
  | .good, l | .inspect, l => decide (l = .toOutfeed)
  | .rejected _, l => decide (l = .staged ∨ l = .toOutfeed)
  | .lost, l => decide (l = .gauging ∨ l = .toStaging ∨ l = .toCasing ∨ l = .toPress ∨
      l = .toJacket ∨ l = .toOutfeed)
  | .removed, l => decide (l ≠ .retired)

/-- Takes a record out of whatever placement collection it is in (R46 step 1). -/
def State.leaveCollections (s : State) (r : Nat) : State :=
  { s with
    table := { s.table with
      transit := s.table.transit.filter (· != r)
      pressApproach := s.table.pressApproach.filter (· != r)
      jacketApproach := s.table.jacketApproach.filter (· != r)
      delivery := s.table.delivery.filter (· != r) }
    stg := { s.stg with
      queue := s.stg.queue.filter (· != r)
      casing := if s.stg.casing.record? = some r then .empty else s.stg.casing }
    press := { s.press with
      queue := s.press.queue.filter (· != r)
      pockets := s.press.pockets.map (fun p => if p = some r then none else p) }
    dlv := { s.dlv with stop := if s.dlv.stop.record? = some r then .empty else s.dlv.stop } }

/-- A record as it stands once retired (R46 steps 2 and 3). -/
def Book.asRetired (b : Book) (out : BookOutcome) (now : Clock) : Book :=
  { b with
    position := none
    press := none
    outcome := some (match out with
      | .rejected _ => .rejected b.reason
      | .good => .good
      | .inspect => .inspect
      | .lost => .lost
      | .removed => .removed)
    retiredAt := some now
    lifeAtRetirement := some b.life
    life := .retired }

/-- Reports the outcome of a BOUND record to its order (R29). -/
def State.accountRetirement (s : State) (b : Book) (out : BookOutcome) : State :=
  match b.binding, b.ident with
  | some .bound, some i => s.updOrder i.order (fun o => o.account out i.copy s.clock)
  | _, _ => s

/-- Ends the Gauge Unit's work on a record that retires; its open window is discarded (R46 step 6,
R87). -/
def State.endGaugingOf (s : State) (r : Nat) : State :=
  match s.gauge.current with
  | some g => if g.slot = r then { s with gauge := { s.gauge with current := none } } else s
  | none => s

/-- Retires the record in a slot with an outcome, when it is in a state from which that outcome can be
reached; otherwise the request is ignored (R46, R39). The outcome of a REJECTED record carries its
reject-pending reason. -/
def State.retire (s : State) (r : Nat) (out : BookOutcome) : State :=
  match s.book? r with
  | some b =>
    if outcomeFrom out b.life then
      let s := s.leaveCollections r
      let s := s.updBook r (fun b => b.asRetired out s.clock)
      let s := { s with table := { s.table with outcomes := s.table.outcomes ++ [r] } }
      let s := s.accountRetirement b out
      s.endGaugingOf r
    else s
  | none => s

/-! ### The verdict (5.7) -/

/-- The valid samples of a record. -/
def validSamples (ss : List (Option Sample)) : List Nat :=
  ss.filterMap (fun x => match x with
    | some (.value v) => some v
    | some .invalid | none => none)

/-- The rounding allowance: ceil(T × R / 1000) (R89). -/
def roundingAllowance (t r : Nat) : Nat := ceilQuot (t * r) 1000

/-- The required spine Sr: T plus 2 × B plus the rounding allowance (R89). -/
def requiredSpine (t : Nat) (k : Template) : Nat := t + 2 * k.board + roundingAllowance t k.rounding

/-- The fit verdict by the difference D = Sr − Sn (R89). -/
def fitVerdict (sr : Nat) (k : Template) : Verdict :=
  let d : Int := (sr : Int) - k.spine
  let ts : Int := k.spineTol
  if -ts ≤ d ∧ d ≤ ts then .fit
  else if ts < d then .tight
  else if k.looseAccept ∧ -d ≤ 2 * ts then .looseOk
  else .loose

/-- The reason a verdict asks for (R89). -/
def verdictReason : Verdict → Option Reason
  | .fit | .looseOk => none
  | .tight => some .spineTight
  | .loose => some .spineLoose

/-- Keeps the first reason (R45). -/
def Book.askReason (b : Book) (why : Option Reason) : Book :=
  { b with reason := b.reason.orElse (fun _ => why) }

/-- The verdict checks of R88 on a record, with the spread limit in force. -/
def Book.judged (b : Book) (k : Template) (spreadLimit : Nat) : Book :=
  match b.thickness, b.spread, b.lm with
  | some t, some sp, some lm =>
    if (validSamples b.samples).length < 3 then b.askReason (some .gaugeFail)
    else if spreadLimit < sp then b.askReason (some .spread)
    else if k.lengthTol < ((lm : Int) - k.trim).natAbs then b.askReason (some .wrongSize)
    else
      let sr := requiredSpine t k
      let v := fitVerdict sr k
      { b with sr := some sr, verdict := some v }.askReason (verdictReason v)
  | _, _, _ => b.askReason (some .gaugeFail)

/-- Runs the verdict checks on a BOUND record (R85, R28). -/
def State.runVerdict (s : State) (r : Nat) : State :=
  s.updBook r (fun b =>
    match b.binding, b.tmpl with
    | some .bound, some k => if b.live then b.judged k s.cfg.spreadLimit else b
    | _, _ => b)

/-! ### Identification (2.8) -/

/-- The gauging of a record has completed: it has left GAUGING (R28). -/
def Book.gauged (b : Book) : Bool := decide (b.life ≠ .gauging)

/-- Binds a record to an order: template copy, counters and copy state, and the verdict checks when its
measurement is already complete (R28). -/
def State.bind (s : State) (r : Nat) (i : Ident) (o : Order) : State :=
  let s := s.updBook r (fun b => { b with binding := some .bound, tmpl := some o.tmpl })
  let s := s.updOrder i.order (fun o =>
    let k := { o.counters with
      admitted := countUp i.order 0 s.clock o.counters.admitted
      inProcess := countUp i.order 1 s.clock o.counters.inProcess }
    match o.tmpl.mode with
    | .copyExact => { o with counters := k }.setCopy i.copy .inProcess
    | .title => { o with counters := k })
  match s.book? r with
  | some b => if b.gauged then s.runVerdict r else s
  | none => s

/-- A live record bound to an order carries this block identifier (R27 test 1). -/
def State.boundTwin (s : State) (i : Ident) : Bool :=
  s.table.books.any (fun b => b.live && decide (b.binding = some .bound) && decide (b.ident = some i))

/-- The result of the tests of R25, R26 and R27 for a record with block identifier `i`. -/
inductive Identified
  | unboundFor (why : Reason)
  | expectedEarly
  | boundTo (o : Order)
  deriving DecidableEq, Repr

/-- The tests of R25, R26 and R27, in order. -/
def State.identified (s : State) (i : Ident) : Identified :=
  if i.item ≠ .blockItem then .unboundFor .wrongItem
  else
    match s.order? i.order with
    | none => if s.expected i.order then .expectedEarly else .unboundFor .foreign
    | some o =>
      if o.state = .complete then .unboundFor .overCount
      else
        match o.tmpl.mode with
        | .copyExact =>
          if o.copies < i.copy then .unboundFor .overCount
          else
            match o.copyState? i.copy with
            | some .inProcess | some .finished => .unboundFor .duplicate
            | some .notSeen | some .rejected => .boundTo o
            | none => .unboundFor .overCount
        | .title =>
          if s.boundTwin i then .unboundFor .duplicate
          else if o.copies ≤ o.counters.inProcess + o.counters.good + o.counters.inspect then
            .unboundFor .overCount
          else .boundTo o

/-- Decides the binding of a record whose binding is absent or EARLY by its block identifier, and stores
it (R25, R37). -/
def State.identifyAs (s : State) (r : Nat) (i : Ident) : State :=
  match s.book? r with
  | some b =>
    if b.live && decide (b.binding = none ∨ b.binding = some .early) then
      match s.identified i with
      | .unboundFor why => s.unbind r why
      | .expectedEarly => s.updBook r (fun b => { b with binding := some .early })
      | .boundTo o => s.bind r i o
    else s
  | none => s

/-- Identifies a record from what its closed read window gathered (R24). -/
def State.identifyWindow (s : State) (r : Nat) (w : ReadWindow) : State :=
  let s := s.updBook r (fun b => { b with badRead := b.badRead || w.bad })
  match w.idents with
  | [] => s.unbind r .noRead
  | i :: rest =>
    if rest.all (· == i) then
      (s.updBook r (fun b => { b with ident := some i })).identifyAs r i
    else s.unbind r .ambiguous

/-! ### The wanted test (2.10) -/

/-- A station that asks the wanted test (2.10). -/
inductive Station
  | caseStation | jacketStation
  deriving DecidableEq, Repr

/-- The answer of the wanted test (2.10). -/
inductive Wanted
  | matchesX | elsewhere | orphan
  deriving DecidableEq, Repr

/-- The station's item letter (R31 test 2). -/
def stationItem : Station → Item
  | .caseStation => .caseItem
  | .jacketStation => .jacketItem

/-- A bound live record has passed the station (R32). -/
def State.passed (s : State) (st : Station) (b : Book) : Bool :=
  match st with
  | .caseStation => !decide (b.life = .gauging ∨ b.life = .toStaging ∨ b.life = .staged)
  | .jacketStation =>
    decide (b.tmpl.map (·.jacket) = some .none) ||
      match b.life with
      | .gauging | .toStaging | .staged | .toCasing | .casing | .toPress | .pressQueued | .pressing
      | .toJacket => false
      | .atJacket =>
        b.marriedJacket.isSome ||
          (match s.dlv.stop with
           | .releasing r _ => r == b.slot
           | .inCycle r _ => r == b.slot
           | .empty | .waiting _ _ | .ejectInFlight _ _ | .done _ => false)
      | .toOutfeed | .retired => true

/-- The live record bound to a copy of an order. -/
def State.boundRecord? (s : State) (order copy : Nat) : Option Book :=
  s.table.books.find? (fun b => b.live && decide (b.binding = some .bound) &&
    decide (b.order? = some order) && decide (b.copy? = some copy))

/-- The lookup of R32 for an item of a COPY_EXACT order that has not matched the candidate. -/
def State.wantedCopy (s : State) (st : Station) (o : Order) (i : Ident) : Wanted :=
  if o.copies < i.copy then .orphan
  else
    match o.copyState? i.copy with
    | some .notSeen | some .rejected => .elsewhere
    | some .inProcess =>
      match s.boundRecord? i.order i.copy with
      | some b => if s.passed st b then .orphan else .elsewhere
      | none => .orphan
    | some .finished => .orphan
    | none => .orphan

/-- The wanted test for an item at a station, with candidate record X (R31). -/
def State.wanted (s : State) (st : Station) (item : Identity) (x : Book) : Wanted :=
  match item with
  | .unreadable | .conflict => .orphan
  | .ident i =>
    if i.item ≠ stationItem st then .orphan
    else
      match s.order? i.order with
      | none => .orphan
      | some o =>
        if o.state = .complete then .orphan
        else if st = .jacketStation ∧ o.tmpl.jacket = .none then .orphan
        else if x.binding = some .bound ∧ x.order? = some i.order ∧
            (o.tmpl.mode = .title ∨ x.copy? = some i.copy) then .matchesX
        else
          match o.tmpl.mode with
          | .title => .elsewhere
          | .copyExact => s.wantedCopy st o i

/-! ### Zone states and faults (9.1–9.3) -/

/-- The staging head's waiting timer stops, without effect, when zone B leaves RUNNING (R99, R100). -/
def StagingSide.stopTimers : StagingSide → StagingSide
  | .idle _ => .idle .none
  | .forwardInFlight t => .forwardInFlight t
  | .rejectInFlight t => .rejectInFlight t
  | .ejectInFlight t => .ejectInFlight t

/-- The jacket-wait timer stops, without effect, when zone C leaves RUNNING and DRAINING (R138). -/
def JacketStop.stopTimer : JacketStop → JacketStop
  | .waiting r _ => .waiting r none
  | .empty => .empty
  | .ejectInFlight r t => .ejectInFlight r t
  | .inCycle r t => .inCycle r t
  | .done r => .done r
  | .releasing r t => .releasing r t

/-- Stops the waiting timers that a zone's present state does not let run (R99, R100, R138). -/
def State.stopZoneTimers (s : State) : Zone → State
  | .b => if s.zoneState .b = .running then s
      else { s with stg := { s.stg with side := s.stg.side.stopTimers } }
  | .c => if s.active .c then s
      else { s with dlv := { s.dlv with stop := s.dlv.stop.stopTimer } }
  | .a | .p => s

/-- Puts a zone into a state, keeping its code and flag; the waiting timers it governs stop when it
leaves the states in which they run (R148). -/
def State.setZone (s : State) (z : Zone) (st : ZoneState) : State :=
  { s with zones := s.zones.set z { s.zones.get z with state := st } }.stopZoneTimers z

/-- A fault report for a zone, handled by the zone's state at the moment it is taken (R152). -/
def State.fault (s : State) (z : Zone) (c : FaultCode) : State :=
  let k := s.zones.get z
  match k.state with
  | .stopped | .running | .draining =>
    { s with zones := s.zones.set z { k with state := .faulted, code := some c } }.stopZoneTimers z
  | .faulted => { s with zones := s.zones.set z { k with further := true } }
  | .tripped =>
    match k.code with
    | none => { s with zones := s.zones.set z { k with code := some c } }
    | some _ => { s with zones := s.zones.set z { k with further := true } }

/-- The back-pressure test of one zone (R74). -/
def State.bpTest (s : State) (z : Belt) : State :=
  { s with trk := { s.trk with
      belts := s.trk.belts.set z { s.belt z with backPressure := s.bpNext z } } }

/-- The back-pressure tests of the three belts. -/
def State.bpTests (s : State) : State := ((s.bpTest .a).bpTest .b).bpTest .c

/-- The drain test of one zone: a DRAINING zone whose end condition holds enters STOPPED (R150). -/
def State.drainTest (s : State) (z : Zone) : State :=
  if s.zoneState z = .draining && s.drained z then s.setZone z .stopped else s

/-- The drain tests of the four zones. -/
def State.drainTests (s : State) : State :=
  (((s.drainTest .a).drainTest .b).drainTest .p).drainTest .c

end Sys2Proof.Machine
end

