-- ==== Sys2Proof/Machine/StationOps.lean ====
section
/-! DEFINITION. What the Staging and Casing Unit, the Press Unit and the Delivery Unit decide, command and
undo: the operations that the commands of their chapters, the zone requests and the guard share. -/

namespace Sys2Proof.Machine

/-! ### Staging head decision (6.4–6.7) -/

/-- The case queue with the reserved flag of its head set or cleared. -/
def markHead (v : Bool) : List CaseEntry → List CaseEntry
  | [] => []
  | e :: rest => { e with reserved := v } :: rest

/-- Clears the reserved flag of the case queue head (R104, R113, R114). -/
def State.unreserve (s : State) : State :=
  { s with stg := { s.stg with cases := markHead false s.stg.cases } }

/-- Puts the staging side into a state. -/
def State.setSide (s : State) (side : StagingSide) : State := { s with stg := { s.stg with side := side } }

/-- Puts the casing side into a state. -/
def State.setCasing (s : State) (c : CasingSide) : State := { s with stg := { s.stg with casing := c } }

/-- Commands a release to the reject lane (R103). -/
def State.commandReject (s : State) : State :=
  s.setSide (.rejectInFlight (s.startTimer s.cfg.releaseTimeout))

/-- Commands a forward release with the case queue head reserved (R101). -/
def State.commandForward (s : State) : State :=
  { s with stg := { s.stg with
      cases := markHead true s.stg.cases
      side := .forwardInFlight (s.startTimer s.cfg.releaseTimeout) } }

/-- Commands an eject of the case queue head (R106). -/
def State.commandCaseEject (s : State) : State :=
  s.setSide (.ejectInFlight (s.startTimer s.cfg.caseEjectTimeout))

/-- Waits in EARLY_HOLD: the timer starts unless it runs (R99). -/
def State.waitEarly (s : State) : State :=
  match s.stg.side with
  | .idle (.earlyHold _) => s
  | _ => s.setSide (.idle (.earlyHold (s.startTimer s.cfg.earlyHold)))

/-- Waits in CASE_WAIT: the timer starts unless it runs (R100). -/
def State.waitCase (s : State) : State :=
  match s.stg.side with
  | .idle (.caseWait _) => s
  | _ => s.setSide (.idle (.caseWait (s.startTimer s.cfg.caseWait)))

/-- A record is BOUND to an order that is HELD (R97 step 1). -/
def State.orderHeld (s : State) (x : Book) : Bool :=
  decide (x.binding = some .bound) &&
    (match x.order?.bind s.order? with
     | some o => decide (o.state = .held)
     | none => false)

/-- The case tests of R98 for head record X, with case queue head `h` and the entries behind it. -/
def State.decideCase (s : State) (x : Book) (h : CaseEntry) (behind : List CaseEntry) : State :=
  match s.wanted .caseStation h.identity x with
  | .orphan => s.commandCaseEject
  | .matchesX => s.commandForward
  | .elsewhere =>
    if behind.any (fun e => decide (s.wanted .caseStation e.identity x = .matchesX)) then
      s.commandCaseEject
    else if s.stg.cases.length < 6 then s.waitCase
    else (s.setReason x.slot .noCase).commandReject

/-- The binding is UNBOUND, with whatever reason. -/
def Binding.isUnbound : Binding → Bool
  | .unbound _ => true
  | .bound | .early => false

/-- The head decision for head record X: the tests of R97, then those of R98. -/
def State.decideHead (s : State) (x : Book) : State :=
  match x.binding with
  | none => s
  | some binding =>
    if binding.isUnbound || x.reason.isSome then
      s.commandReject
    else if s.orderHeld x then (s.setReason x.slot .orderHeld).commandReject
    else if binding = .early then s.waitEarly
    else if s.stg.casing.record?.isSome then s.setSide (.idle .casingBusy)
    else
      match s.stg.cases with
      | [] => s.waitCase
      | h :: behind => s.decideCase x h behind

/-- The staging side is IDLE. -/
def StagingSide.isIdle : StagingSide → Bool
  | .idle _ => true
  | .forwardInFlight _ | .rejectInFlight _ | .ejectInFlight _ => false

/-- Makes the staging head decision, when the queue has a head, zone B is RUNNING and the staging side
is IDLE (R96). -/
def State.stagingDecide (s : State) : State :=
  if s.zoneState .b = .running && s.stg.side.isIdle then
    match s.stg.queue.head?.bind s.book? with
    | some x => s.decideHead x
    | none => s
  else s

/-! ### Casing cycle and casing release (6.8, 6.9) -/

/-- The case queue without its head, if the head is reserved (R108). -/
def shootReserved : List CaseEntry → List CaseEntry
  | [] => []
  | e :: rest => if e.reserved then rest else e :: rest

/-- Begins the casing cycle of a record in CYCLE_PENDING, while zone B is RUNNING or DRAINING and the
outputs are armed; the case queue changes, so the head decision is made again (R108). -/
def State.casingCycleTest (s : State) : State :=
  match s.stg.casing with
  | .cyclePending r =>
    if s.active .b && s.io.armed then
      { s with stg := { s.stg with
          cases := shootReserved s.stg.cases
          casing := .inCycle r (s.startTimer s.cfg.casingTimeout) } }.stagingDecide
    else s
  | .empty | .approach _ | .inCycle _ _ | .cased _ | .releasing _ _ => s

/-- Commands the casing release of a CASED record when its conditions hold (R111). -/
def State.casingReleaseTest (s : State) : State :=
  match s.stg.casing with
  | .cased r =>
    if s.active .b && s.io.armed && decide (s.table.pressApproach.length < 4) then
      s.setCasing (.releasing r (s.startTimer s.cfg.releaseTimeout))
    else s
  | .empty | .approach _ | .cyclePending _ | .inCycle _ _ | .releasing _ _ => s

/-! ### Ejections -/

/-- Removes the head of the case queue as ejected and reports it (R106, R107, R114). -/
def State.removeEjectedCase (s : State) : State :=
  match s.stg.cases with
  | [] => s
  | e :: rest => { s with stg := { s.stg with cases := rest } }.countCaseEjection e.identity

/-- Removes the head of the jacket queue as ejected and reports it (R139, R145). -/
def State.removeEjectedJacket (s : State) : State :=
  match s.dlv.jackets with
  | [] => s
  | e :: rest => { s with dlv := { s.dlv with jackets := rest } }.countJacketEjection e

/-! ### Jacket stop (8.2–8.6) -/

/-- Puts the jacket stop into a state. -/
def State.setStop (s : State) (st : JacketStop) : State := { s with dlv := { s.dlv with stop := st } }

/-- Commands the jacket release of a DONE record when its conditions hold; the stop is then no longer
full for back-pressure (R141). -/
def State.jacketReleaseTest (s : State) : State :=
  match s.dlv.stop with
  | .done r =>
    if s.active .c && s.io.armed && decide (s.table.delivery.length < 6) then
      (s.setStop (.releasing r (s.startTimer s.cfg.releaseTimeout))).bpTest .c
    else s
  | .empty | .waiting _ _ | .ejectInFlight _ _ | .inCycle _ _ | .releasing _ _ => s

/-- The jacket mode of a record's template copy is REQUIRED. -/
def Book.jacketRequired (b : Book) : Bool := decide (b.tmpl.map (·.jacket) = some .required)

/-- The jacket mode of a record's template copy is NONE. -/
def Book.jacketNone (b : Book) : Bool := decide (b.tmpl.map (·.jacket) = some .none)

/-- Ends the stop decision without a jacket: UNJACKETED when the jacket mode is REQUIRED, the stop DONE,
and the release tested (R137). -/
def State.releaseUnjacketed (s : State) (x : Book) : State :=
  let s := if x.jacketRequired then s.setJacketResult x.slot .unjacketed else s
  (s.setStop (.done x.slot)).jacketReleaseTest

/-- Begins a jacket cycle with the head jacket, which is shot and married (R140). -/
def State.beginJacketCycle (s : State) (x : Book) (i : Ident) (rest : List Identity) : State :=
  let s := s.updBook x.slot (fun b => { b with marriedJacket := some i })
  { s with dlv := { s.dlv with
      jackets := rest
      stop := .inCycle x.slot (s.startTimer s.cfg.jacketCycleTimeout) } }

/-- The tests of R137 for the record X at the stop, whose jacket-wait timer is `timer`. -/
def State.decideStop (s : State) (x : Book) (timer : Option Timer) : State :=
  if x.reason.isSome || x.jacketNone then s.releaseUnjacketed x
  else
    match s.dlv.jackets with
    | [] => s.setStop (.waiting x.slot (some (timer.getD (s.startTimer s.cfg.jacketWait))))
    | j :: rest =>
      match s.wanted .jacketStation j x, j with
      | .matchesX, .ident i => s.beginJacketCycle x i rest
      | .matchesX, .unreadable | .matchesX, .conflict | .orphan, _ =>
        s.setStop (.ejectInFlight x.slot (s.startTimer s.cfg.jacketEjectTimeout))
      | .elsewhere, _ => s.releaseUnjacketed x

/-- Makes the stop decision, when the stop is WAITING, zone C is RUNNING or DRAINING and the outputs are
armed (R137). -/
def State.jacketDecide (s : State) : State :=
  match s.dlv.stop with
  | .waiting r timer =>
    if s.active .c && s.io.armed then
      match s.book? r with
      | some x => s.decideStop x timer
      | none => s
    else s
  | .empty | .ejectInFlight _ _ | .inCycle _ _ | .done _ | .releasing _ _ => s

/-- An announcement of the Order Table, or a reject-pending reason on a head: both stations decide
again, if their conditions hold (R96, R137). -/
def State.announce (s : State) : State := s.stagingDecide.jacketDecide

/-! ### Press (7.3–7.5) -/

/-- Recomputes the index period (R119, R120). -/
def State.recomputePeriod (s : State) : State :=
  { s with press := { s.press with period := s.periodNow } }

/-- Whether an unload is decided at an index command, and of which record (R122). -/
def State.unloadDecision (s : State) : Option (Nat × Nat) :=
  match s.pocket? s.unloadPocket with
  | some r =>
    match s.book? r with
    | some b =>
      if b.satisfied s.clock && decide (s.zoneState .c = .running) && !(s.belt .c).backPressure
          && decide (s.table.jacketApproach.length < 6) then
        some (s.unloadPocket, r)
      else none
    | none => none
  | none => none

/-- Whether a load is decided at an index command, and of which record (R123). -/
def State.loadDecision (s : State) : Option (Nat × Nat) :=
  match s.pocket? s.press.rotation, s.press.queue with
  | none, r :: _ => if s.zoneState .p = .running then some (s.press.rotation, r) else none
  | _, _ => none

/-- Commands an index, with its load and unload decided (R123). -/
def State.commandIndex (s : State) : State :=
  { s with press := { s.press with
      index := some ⟨s.startTimer s.cfg.indexTimeout, s.loadDecision, s.unloadDecision,
        s.unloadPocket⟩
      lastCommand := some s.clock } }

/-- P has passed since the last command, or there has been none (R121). -/
def State.indexDue (s : State) : Bool :=
  match s.indexTimer with
  | some t => t.due s.clock
  | none => true

/-- Tests for an index command: all conditions of R121, the time since the last command among them. -/
def State.pressTest (s : State) : State :=
  if s.indexReady && s.indexDue then s.commandIndex else s

/-- Puts a record into a pocket, or empties it. -/
def State.setPocket (s : State) (p : Nat) (v : Option Nat) : State :=
  { s with press := { s.press with pockets := s.press.pockets.set p v } }

/-- Applies the unload of an index: the record moves from PRESSING to TO_JACKET with no reference, its
pocket empties and it becomes the awaited unload (R125 step 3). A record that is no longer PRESSING, or
a full jacket approach list, leaves it where it stands (R39, R41). -/
def State.applyUnload (s : State) (p r : Nat) : State :=
  match s.book? r with
  | some b =>
    if b.life = .pressing ∧ s.table.jacketApproach.length < 6 then
      let s := s.updBook r (fun b => { b with life := .toJacket, position := none, press := none })
      let s := s.setPocket p none
      { s with
        table := { s.table with jacketApproach := s.table.jacketApproach ++ [r] }
        press := { s.press with awaited := some (r, s.startTimer s.cfg.unloadGrace) } }
    else s
  | none => s

/-- Applies the load of an index: the record moves from PRESS_QUEUED to PRESSING in the pocket that
stood at the load station at the command, with the command time as its load time (R125 step 4). -/
def State.applyLoad (s : State) (p r : Nat) (commandTime : Clock) : State :=
  match s.book? r with
  | some b =>
    if b.life = .pressQueued then
      let s := s.updBook r (fun b => { b with
        life := .pressing, position := none, press := some ⟨p, commandTime, 0⟩ })
      let s := s.setPocket p (some r)
      { s with press := { s.press with queue := s.press.queue.filter (· != r) } }
    else s
  | none => s

/-- Raises the laps of a record by 1, to at most 255 (R126, R40). -/
def Book.rideOn (b : Book) : Book :=
  { b with press := b.press.map (fun d => { d with laps := min 255 (d.laps + 1) }) }

/-- Raises the laps of a riding-on record: the pocket at the unload station at the command was occupied
and not unloaded (R125 step 5, R126). The pocket loaded by the same index is another. -/
def State.applyRideOn (s : State) (op : IndexOp) (occupant : Option Nat) : State :=
  match occupant, op.unload with
  | some r, none => s.updBook r Book.rideOn
  | _, _ => s

/-- Applies an index at its INDEX_DONE, in the order of R125. -/
def State.applyIndex (s : State) (op : IndexOp) : State :=
  let occupant := s.pocket? op.station
  let s := { s with press := { s.press with
    index := none, rotation := (s.press.rotation + 1) % 24 } }
  let s := match op.unload with | some (p, r) => s.applyUnload p r | none => s
  let s := match op.load with | some (p, r) => s.applyLoad p r op.timer.since | none => s
  (s.applyRideOn op occupant).recomputePeriod

/-! ### Entering RUNNING, and the trip (R62, R114, R115, R130, R139, R145, R146) -/

/-- The forward mark of a belt set to its count (R62). -/
def State.markHere (s : State) (z : Belt) : State :=
  { s with trk := { s.trk with belts := s.trk.belts.set z { s.belt z with mark := (s.belt z).count } } }

/-- A zone enters RUNNING: the forward mark (R62), the eject-overdue marks (R107, R139), and the tests
the units make then (R96, R108, R111, R121, R137, R141). A jacket-wait timer that runs when zone C enters
RUNNING from DRAINING starts again in full by R146: the model's reading (log entry 31). -/
def State.enterRunning (s : State) : Zone → State
  | .a => (s.setZone .a .running).markHere .a
  | .b =>
    let s := (s.setZone .b .running).markHere .b
    let s := { s with stg := { s.stg with overdue := false } }
    s.casingCycleTest.casingReleaseTest.stagingDecide
  | .p => (s.setZone .p .running).pressTest
  | .c =>
    let s := (s.setZone .c .running).markHere .c
    let s := { s with dlv := { s.dlv with overdue := false, stop := s.dlv.stop.stopTimer } }
    s.jacketDecide.jacketReleaseTest

/-- The staging operations in flight at a trip (R114). -/
def State.tripStagingSide (s : State) : State :=
  match s.stg.side with
  | .forwardInFlight _ => s.unreserve.setSide (.idle .none)
  | .rejectInFlight _ => s.setSide (.idle .none)
  | .ejectInFlight _ => s.removeEjectedCase.setSide (.idle .none)
  | .idle _ => s.setSide (.idle .none)

/-- The casing operations in flight at a trip (R114). -/
def State.tripCasing (s : State) : State :=
  match s.stg.casing with
  | .inCycle r _ => (s.setReason r .suspect).setCasing (.cased r)
  | .releasing r _ => s.setCasing (.cased r)
  | .empty | .approach _ | .cyclePending _ | .cased _ => s

/-- An index in flight at a trip is taken as not made (R130). -/
def State.tripPress (s : State) : State := { s with press := { s.press with index := none } }

/-- The delivery operations in flight at a trip (R145). -/
def State.tripDelivery (s : State) : State :=
  match s.dlv.stop with
  | .ejectInFlight r _ => s.removeEjectedJacket.setStop (.waiting r none)
  | .inCycle r _ => ((s.setReason r .suspect).setJacketResult r .unjacketed).setStop (.done r)
  | .releasing r _ => s.setStop (.done r)
  | .waiting r _ => s.setStop (.waiting r none)
  | .empty | .done _ => s

/-- A trip, in the order of R156: the outputs disarm, every zone enters TRIPPED, and the units end
their operations in flight; back-pressure is tested again. -/
def State.trip (s : State) : State :=
  let s := { s with io := { s.io with armed := false } }
  let s := (((s.setZone .a .tripped).setZone .b .tripped).setZone .p .tripped).setZone .c .tripped
  s.tripStagingSide.tripCasing.tripPress.tripDelivery.bpTests

end Sys2Proof.Machine
end

