-- ==== Sys2Proof/Machine/TrackOps.lean ====
section
/-! DEFINITION. The gauging of a record, the watch points' heads, and what a count or an eye edge does:
the operations that chapters 4 and 5 share with the station chapters. -/

namespace Sys2Proof.Machine

/-! ### Gauging (chapter 5) -/

/-- Replaces the gauging record. -/
def State.setGauging (s : State) (g : Option Gauging) : State :=
  { s with gauge := { s.gauge with current := g } }

/-- A sample as the held reading gives it: valid from 0 to 9999, else INVALID (R79). -/
def sampleOf : Option Nat → Sample
  | some v => if v ≤ 9999 then .value v else .invalid
  | none => .invalid

/-- Settles every unsettled sample INVALID (R82 step 1, R86 step 2). -/
def settleInvalid (ss : List (Option Sample)) : List (Option Sample) :=
  ss.map (fun x => some (x.getD .invalid))

/-- T: the half-up mean of the valid samples (R85). -/
def meanOf (vs : List Nat) : Nat := (2 * vs.sum + vs.length) / (2 * vs.length)

/-- The spread: the largest valid sample less the smallest (R85). -/
def spreadOf : List Nat → Nat
  | [] => 0
  | v :: vs => vs.foldl max v - vs.foldl min v

/-- A record with T and the spread stored, when at least three samples are valid (R85 step 1). -/
def Book.withThickness (b : Book) : Book :=
  let vs := validSamples b.samples
  if 3 ≤ vs.length then { b with thickness := some (meanOf vs), spread := some (spreadOf vs) } else b

/-- The effects of a gauging's completion, in the order of R85. -/
def State.finishGauging (s : State) (r : Nat) : State :=
  let s := s.updBook r Book.withThickness
  let s := s.runVerdict r
  let s := s.updBook r (fun b => if b.life = .gauging then { b with life := .toStaging } else b)
  s.setGauging none

/-- The length measurement has ended. -/
def LengthState.isEnded : LengthState → Bool
  | .ended _ => true
  | .inProgress => false

/-- The completion test of R85. -/
def State.completionTest (s : State) : State :=
  match s.gauge.current with
  | some g =>
    match s.book? g.slot with
    | some b =>
      if g.length.isEnded && b.samples.all Option.isSome && g.window.isNone then
        s.finishGauging g.slot
      else s
    | none => s
  | none => s

/-- Closes the read window of the gauging record, if it is open, and identifies the record (R84). -/
def State.closeWindow (s : State) : State :=
  match s.gauge.current with
  | some g =>
    match g.window with
    | some w => (s.setGauging (some { g with window := none })).identifyWindow g.slot w
    | none => s
  | none => s

/-- Ends a length measurement still in progress without a trail capture (R83, R86 step 3). -/
def State.endLength (s : State) : State :=
  match s.gauge.current with
  | some g =>
    match g.length with
    | .inProgress => s.setGauging (some { g with length := .ended none })
    | .ended _ => s
  | none => s

/-- Settles the unsettled samples of the gauging record INVALID. -/
def State.settleSamples (s : State) : State :=
  match s.gauge.current with
  | some g => s.updBook g.slot (fun b => { b with samples := settleInvalid b.samples })
  | none => s

/-- A forced completion of the gauging record (R86). -/
def State.forceCompletion (s : State) : State := s.closeWindow.settleSamples.endLength.completionTest

/-- The sampling points S1 to S4. -/
def samplePoints (c : Cfg) : List Nat := [c.s1, c.s2, c.s3, c.s4]

/-- The samples of a record after the sampling test at `travel` counts behind its lead capture: each
unsettled sample whose point is reached is taken from the held reading (R81). -/
def takeSamples (travel : Int) (held : Option Nat) :
    List Nat → List (Option Sample) → List (Option Sample)
  | p :: ps, x :: xs =>
    (if x.isNone && decide (travel = (p : Int)) then some (sampleOf held) else x) ::
      takeSamples travel held ps xs
  | _, xs => xs

/-- s(count − lead capture) of a record on zone A. -/
def State.travel (s : State) (b : Book) : Int := sdiff (s.belt .a).count b.lead

/-- The last count of a belt was an up-count, its direction flag being FORWARD (R59), and was taken with
the configuration in force (R76, R90, log entry 30). -/
def State.movingForward (s : State) (z : Belt) : Bool :=
  decide ((s.belt z).direction = .forward) && (s.belt z).counted

/-- The sampling test at an up-count of zone A, and the completion test (R81, R85). -/
def State.sampleTest (s : State) : State :=
  match s.gauge.current with
  | some g =>
    match s.book? g.slot with
    | some _ =>
      if s.movingForward .a then
        (s.updBook g.slot (fun b => { b with
          samples := takeSamples (s.travel b) s.gauge.held (samplePoints s.cfg) b.samples })).completionTest
      else s
    | none => s
  | none => s

/-- The span test at an up-count of zone A: at the maximum span plus 1 the length measurement ends
without a trail capture and EYE_BLOCKED is reported (R83). -/
def State.spanTest (s : State) : State :=
  match s.gauge.current with
  | some g =>
    match s.book? g.slot with
    | some b =>
      if s.movingForward .a && !g.length.isEnded && decide (s.travel b = (s.cfg.maxSpan : Int) + 1) then
        (s.endLength.fault .a .eyeBlocked).completionTest
      else s
    | none => s
  | none => s

/-- The closing count of the gauging record's read window is reached (R84). -/
def State.windowDue (s : State) (b : Book) : Bool :=
  decide (s.travel b = (s.cfg.maxSpan : Int) + s.cfg.readGrace) ||
    (match b.trail with
     | some t => decide (sdiff (s.belt .a).count t = (s.cfg.readGrace : Int))
     | none => false)

/-- The read window test at an up-count of zone A: the window closes, the record is identified and the
completion is tested (R84). -/
def State.windowTest (s : State) : State :=
  match s.gauge.current with
  | some g =>
    match s.book? g.slot with
    | some b =>
      if s.movingForward .a && g.window.isSome && s.windowDue b then
        s.closeWindow.completionTest
      else s
    | none => s
  | none => s

/-- What the trailing edge of the GAUGE eye does to the gauging record (R82). -/
def State.gaugeTrailing (s : State) (capture : Count) : State :=
  match s.gauge.current with
  | some g =>
    let s := s.settleSamples
    match g.length, s.book? g.slot with
    | .inProgress, some b =>
      if 0 < sdiff capture b.lead then
        let lm := halfUp ((capture - b.lead).toNat * s.cfg.scale.a) 10
        let s := s.updBook g.slot (fun b => { b with trail := some capture, lm := some lm })
        (s.setGauging (some { g with length := .ended (some capture) })).completionTest
      else
        (s.setGauging (some { g with length := .ended none })).completionTest
    | _, _ => s.completionTest
  | none => s

/-! ### Delivery lane (8.7) -/

/-- The lane of a record whose outfeed window opens, by the table of R142. -/
def laneOf (b : Book) (proofTaken : Bool) : Lane :=
  if b.reason.isSome then .reject
  else if b.jacketRequired && decide (b.jacketResult = some .unjacketed) then .inspect
  else if decide (b.tmpl.map (·.proofFirst) = some true) && !proofTaken then .inspect
  else .good

/-- The record takes the proof of its order: the third row of the table of R142. -/
def takesProof (b : Book) (proofTaken : Bool) : Bool :=
  !b.reason.isSome && !(b.jacketRequired && decide (b.jacketResult = some .unjacketed)) &&
    decide (b.tmpl.map (·.proofFirst) = some true) && !proofTaken

/-- Sets a record's lane, once, with the proof marker and proof taken flag, and the gate setting
(R142, R143). -/
def State.setLane (s : State) (b : Book) : State :=
  match b.lane with
  | some _ => s
  | none =>
    let proofTaken := match b.order?.bind s.order? with
      | some o => o.proofTaken
      | none => false
    let lane := laneOf b proofTaken
    let s := s.updBook b.slot (fun x => { x with
      lane := some lane, proof := x.proof || takesProof b proofTaken })
    let s := if takesProof b proofTaken then
        match b.order? with
        | some n => s.updOrder n (fun o => { o with proofTaken := true })
        | none => s
      else s
    { s with dlv := { s.dlv with gate := lane } }

/-! ### Watch points (4.3) -/

/-- Sets or clears the opened flag of a watch point (R66). -/
def State.setOpened (s : State) (w : Watch) (v : Bool) : State :=
  { s with trk := { s.trk with opened := s.trk.opened.set w v } }

/-- The window of a watch point opens for its head: the flag is set, and the Gauge Unit or the Delivery
Unit is told (R67, R86, R142). -/
def State.openWindow (s : State) (w : Watch) (b : Book) : State :=
  let s := s.setOpened w true
  match w with
  | .stagingEntry =>
    match s.gauge.current with
    | some g => if g.slot = b.slot ∧ b.life = .gauging then s.forceCompletion else s
    | none => s
  | .outfeed => s.setLane b
  | .casing | .pressEntry | .jacket => s

/-- The head of a watch point goes missing: it retires LOST, MISSING is reported for the zone, and the
unit that keeps the collection is told (R70); for the casing section the reserved case is let go
(R113). -/
def State.loseHead (s : State) (w : Watch) (b : Book) : State :=
  let s := s.retire b.slot .lost
  let s := match w with
    | .casing => s.unreserve
    | .stagingEntry | .pressEntry | .jacket | .outfeed => s
  (s.fault (beltZone (watchBelt w)) .missing).setOpened w false

/-- Tests the head of a watch point against the count as it stands, on to the next head for as long as
one is missing at once (R71). -/
def State.testHead : Nat → State → Watch → State
  | 0, s, _ => s
  | fuel + 1, s, w =>
    match s.target? w with
    | none => s
    | some (b, t) =>
      if s.inWindow w t then
        if s.trk.opened.get w then s else s.openWindow w b
      else if (s.cfg.window.get (watchBelt w) : Int) < sdiff (s.belt (watchBelt w)).count t then
        (s.loseHead w b).testHead fuel w
      else s

/-- More heads than a watch point can lose one after another. -/
def State.headFuel (s : State) : Nat := s.table.books.length + 1

/-- The head of a watch point has changed: its opened flag is cleared and it is tested (R66, R71). -/
def State.newHead (s : State) (w : Watch) : State := (s.setOpened w false).testHead s.headFuel w

/-- The head of a watch point, or its target, may have changed without a new record at the head: it is
tested again (R71, R73). -/
def State.retest (s : State) (w : Watch) : State := s.testHead s.headFuel w

/-- The missing test of an up-count: s(count − target) equal to W + 1 (R70). -/
def State.missingTest (s : State) (w : Watch) : State :=
  match s.target? w with
  | some (b, t) =>
    if s.movingForward (watchBelt w) && decide (sdiff (s.belt (watchBelt w)).count t =
        (s.cfg.window.get (watchBelt w) : Int) + 1) then
      (s.loseHead w b).testHead s.headFuel w
    else s
  | none => s

/-- The window test at a count, in either direction: the first time the window is found open for a head,
it opens (R67). -/
def State.openTest (s : State) (w : Watch) : State :=
  match s.target? w with
  | some (b, t) => if s.inWindow w t && !(s.trk.opened.get w) then s.openWindow w b else s
  | none => s

/-- What follows a change on the belts, once its own effects stand: the back-pressure tests, the casing
release, the decisions of both stations, the jacket release and the drain tests (R74, R96, R111, R137,
R141, R150; log entry 11 for their order). -/
def State.follow (s : State) : State :=
  s.bpTests.casingReleaseTest.announce.jacketReleaseTest.drainTests

/-! ### Counting (4.1) -/

/-- A phase pair's step in the cycle of R59, from 0. -/
def phaseStep : Bool × Bool → Nat
  | (false, false) => 0
  | (true, false) => 1
  | (true, true) => 2
  | (false, true) => 3

/-- Replaces what is kept of a belt. -/
def State.setBelt (s : State) (z : Belt) (k : BeltState) : State :=
  { s with trk := { s.trk with belts := s.trk.belts.set z k } }

/-- An up-count: the counter, the direction flag, the net count and the forward mark (R59, R61, R63). -/
def BeltState.up (k : BeltState) : BeltState :=
  let n := k.count + 1#16
  { k with
    count := n
    direction := .forward
    net := k.net + 1
    mark := if 0 < sdiff n k.mark then n else k.mark
    backReported := false
    counted := true }

/-- A down-count (R59, R63). -/
def BeltState.down (k : BeltState) : BeltState :=
  { k with
    count := k.count - 1#16
    direction := .reverse
    net := k.net - 1
    backReported := false
    counted := true }

/-- The back-travel test at a down-count: at the limit plus 1 BACK_TRAVEL is reported, once for the
count (R61). A new limit applies from the next down-count (R76, log entry 30). -/
def State.backTravelTest (s : State) (z : Belt) : State :=
  let k := s.belt z
  if decide (k.direction = .reverse) && k.counted && !k.backReported &&
      decide (sdiff k.mark k.count = (s.cfg.backLimit.get z : Int) + 1) then
    (s.setBelt z { k with backReported := true }).fault (beltZone z) .backTravel
  else s

/-- The tests of a count of zone A on the gauging record: samples, span, read window (R81, R83, R84). -/
def State.gaugeTests (s : State) : Belt → State
  | .a => s.sampleTest.spanTest.windowTest
  | .b | .c => s

/-- The tests of an up-count, in the order of log entry 12: the gauging record, then each watch point of
the belt, its window and its missing count. -/
def State.upTests (s : State) (z : Belt) : State :=
  (beltWatches z).foldl (fun s w => (s.openTest w).missingTest w) (s.gaugeTests z)

/-- The tests of a down-count: back-travel, then the windows. -/
def State.downTests (s : State) (z : Belt) : State :=
  (beltWatches z).foldl (fun s w => s.openTest w) (s.backTravelTest z)

/-- The phase readings of a belt's encoder (R60). -/
def State.phaseReading (s : State) (z : Belt) : Bool × Bool :=
  (s.reads (phasePoints z).1, s.reads (phasePoints z).2)

/-- Takes the phase readings of a belt's encoder as an up-count, a down-count or a step fault, when they
differ from the phase state (R59). -/
def State.takePhases (s : State) (z : Belt) : State :=
  let k := s.belt z
  let new := s.phaseReading z
  match (phaseStep new + 4 - phaseStep k.phase) % 4 with
  | 1 => ((s.setBelt z { k.up with phase := new }).upTests z).follow
  | 2 => ((s.setBelt z { k with phase := new }).fault (beltZone z) .encoder).follow
  | 3 => ((s.setBelt z { k.down with phase := new }).downTests z).follow
  | _ => s

/-! ### Eye edges (4.2) -/

/-- The present count of an eye's zone: its capture (R64). -/
def State.captureOf (s : State) (e : Eye) : Count := (s.belt (eyeBelt e)).count

/-- Keeps the capture and the time of an eye's leading edge (R64). -/
def State.noteEdge (s : State) (e : Eye) : State :=
  { s with trk := { s.trk with
      eyes := s.trk.eyes.set (eyeIndex e) (some (s.captureOf e, s.clock)) } }

/-- An edge of a confirmation eye that confirms nothing (R65), or of a watch point's eye that is no
arrival (R72). -/
def State.unexpected (s : State) (z : Belt) : State := s.fault (beltZone z) .unexpected

/-- The arrival of the gauge transit head at the staging queue (R92). -/
def State.arriveStaging (s : State) (b : Book) : State :=
  if s.stg.queue.length < 4 then
    let s := s.updBook b.slot (fun b => { b with life := .staged, position := none })
    let s := { s with
      table := { s.table with transit := s.table.transit.filter (· != b.slot) }
      stg := { s.stg with queue := s.stg.queue ++ [b.slot] } }
    (s.newHead .stagingEntry).follow
  else s

/-- The arrival of the casing section's record at the casing stop (R108). -/
def State.arriveCasing (s : State) (b : Book) : State :=
  let s := s.updBook b.slot (fun b => { b with life := .casing, position := none })
  ((s.setCasing (.cyclePending b.slot)).setOpened .casing false).casingCycleTest.follow

/-- The arrival of the press approach head at the press queue (R118). -/
def State.arrivePress (s : State) (b : Book) : State :=
  if s.press.queue.length < 3 then
    let s := s.updBook b.slot (fun b => { b with life := .pressQueued, position := none })
    let s := { s with
      table := { s.table with pressApproach := s.table.pressApproach.filter (· != b.slot) }
      press := { s.press with queue := s.press.queue ++ [b.slot] } }
    (s.newHead .pressEntry).recomputePeriod.follow.pressTest
  else s

/-- The arrival of the jacket approach head at the jacket stop (R136). The next head is tested (R71)
before the stop decision is made: the model's choice (log entry 11). -/
def State.arriveJacket (s : State) (b : Book) : State :=
  match s.dlv.stop with
  | .empty =>
    let s := s.updBook b.slot (fun b => { b with life := .atJacket, position := none })
    let s := { s with
      table := { s.table with jacketApproach := s.table.jacketApproach.filter (· != b.slot) }
      dlv := { s.dlv with stop := .waiting b.slot none } }
    (s.newHead .jacket).follow
  | .waiting _ _ | .ejectInFlight _ _ | .inCycle _ _ | .done _ | .releasing _ _ => s

/-- The outcome of a lane (R144). -/
def laneOutcome (b : Book) : Lane → BookOutcome
  | .good => .good
  | .inspect => .inspect
  | .reject => .rejected b.reason

/-- The arrival of the delivery list's head at the outfeed: it retires by its lane (R144). -/
def State.arriveOutfeed (s : State) (b : Book) : State :=
  match b.lane with
  | some l => ((s.retire b.slot (laneOutcome b l)).newHead .outfeed).follow
  | none => s

/-- The next stage takes or refuses an arriving head (R68, R69). -/
def State.arrive (s : State) (w : Watch) (b : Book) : State :=
  match w with
  | .stagingEntry => s.arriveStaging b
  | .casing => s.arriveCasing b
  | .pressEntry => s.arrivePress b
  | .jacket => s.arriveJacket b
  | .outfeed => s.arriveOutfeed b

/-- A leading edge at a watch point's eye: an arrival of the head while its window is open, otherwise
unexpected (R68, R72). -/
def State.watchEdge (s : State) (w : Watch) : State :=
  let s := s.noteEdge (watchEye w)
  match s.target? w with
  | some (b, t) => if s.inWindow w t then s.arrive w b else s.unexpected (watchBelt w)
  | none => s.unexpected (watchBelt w)

/-- The crowding test at a gauge leading edge, and the last-lead value (R44, R42). -/
def State.crowdTest (s : State) (capture : Count) : State :=
  let crowded := match s.table.lastLead with
    | some l => decide (sdiff capture l < (s.cfg.minPitch : Int))
    | none => false
  let s := if crowded then s.fault .a .crowded else s
  { s with table := { s.table with lastLead := some capture } }

/-- Creates a record in a slot, at the tail of the gauge transit list (R42, R36, R35). -/
def State.createBook (s : State) (slot : Nat) (capture : Count) : State :=
  { s with table := { s.table with
      books := s.table.books ++ [newBook slot s.table.nextSeq s.clock capture]
      nextSeq := nextSequence s.table.nextSeq
      transit := s.table.transit ++ [slot] } }

/-- The Gauge Unit takes a new record as its gauging record, completing an earlier one first (R80). -/
def State.takeGauging (s : State) (slot seq : Nat) : State :=
  s.forceCompletion.setGauging (some ⟨slot, seq, .inProgress, some ⟨[], false⟩⟩)

/-- A leading edge of the GAUGE eye: CROWDED, then UNTRACKED or the creation of a record, which becomes
the gauging record (R42, R43, R44, R80). -/
def State.gaugeLeading (s : State) : State :=
  let s := s.noteEdge .gauge
  let capture := s.captureOf .gauge
  let s := s.crowdTest capture
  match s.lowestFreeSlot? with
  | some slot =>
    if s.table.transit.length < 8 then
      let first := s.table.transit.isEmpty
      let seq := s.table.nextSeq
      let s := (s.createBook slot capture).takeGauging slot seq
      (if first then s.newHead .stagingEntry else s).follow
    else s.fault .a .untracked
  | none => s.fault .a .untracked

/-- The identifier of the case queue's head, which a forward release has reserved (R102). -/
def State.reservedIdent (s : State) : Option Ident :=
  match s.stg.cases with
  | ⟨.ident i, _⟩ :: _ => some i
  | _ => none

/-- The record in a slot is in a lifecycle state: what a move from that state requires (R38, R39). -/
def State.inState (s : State) (r : Nat) (l : Life) : Bool :=
  match s.book? r with
  | some b => decide (b.life = l)
  | none => false

/-- The RELEASE eye confirms the forward release in flight (R102). The record joins the casing section,
which holds one record; if the section is occupied, or the record is not STAGED, the move is refused and
the record stays (R39, R41). -/
def State.releaseEdge (s : State) : State :=
  let s := s.noteEdge .release
  match s.stg.side with
  | .forwardInFlight _ =>
    match s.stg.queue, s.stg.casing with
    | r :: rest, .empty =>
      if s.inState r .staged then
        let s := s.updBook r (fun b => { b with
          life := .toCasing
          position := some (.b, s.captureOf .release)
          marriedCase := s.reservedIdent })
        let s := { s with stg := { s.stg with
          queue := rest, casing := .approach r, side := .idle .none } }
        (s.newHead .casing).follow
      else (s.setSide (.idle .none)).follow
    | _, _ => (s.setSide (.idle .none)).follow
  | .idle _ | .rejectInFlight _ | .ejectInFlight _ => s.unexpected .b

/-- The REJECT eye confirms the release to the reject lane in flight: the head retires REJECTED
(R103). -/
def State.rejectEdge (s : State) : State :=
  let s := s.noteEdge .reject
  match s.stg.side with
  | .rejectInFlight _ =>
    let s := s.setSide (.idle .none)
    match s.stg.queue with
    | r :: _ => (s.retire r (.rejected none)).follow
    | [] => s.follow
  | .idle _ | .forwardInFlight _ | .ejectInFlight _ => s.unexpected .b

/-- The CASING_EXIT eye confirms the casing release in flight (R111). -/
def State.casingExitEdge (s : State) : State :=
  let s := s.noteEdge .casingExit
  match s.stg.casing with
  | .releasing r _ =>
    if s.table.pressApproach.length < 4 ∧ s.inState r .casing then
      let first := s.table.pressApproach.isEmpty
      let s := s.updBook r (fun b => { b with
        life := .toPress, position := some (.b, s.captureOf .casingExit) })
      let s := { s with
        table := { s.table with pressApproach := s.table.pressApproach ++ [r] }
        stg := { s.stg with casing := .empty } }
      (if first then s.newHead .pressEntry else s).follow
    else s.setCasing (.cased r)
  | .empty | .approach _ | .cyclePending _ | .inCycle _ _ | .cased _ => s.unexpected .b

/-- The UNLOAD eye confirms the awaited unload: the record takes its zone C reference, and if it is the
head of the jacket approach list, which now has a target, its window is tested (R127, R40, R71). -/
def State.unloadEdge (s : State) : State :=
  let s := s.noteEdge .unload
  match s.press.awaited with
  | some (r, _) =>
    let s := s.updBook r (fun b =>
      if b.life = .toJacket then { b with position := some (.c, s.captureOf .unload) } else b)
    let s := { s with press := { s.press with awaited := none } }
    (if s.table.jacketApproach.head? = some r then s.retest .jacket else s).follow.pressTest
  | none => s.unexpected .c

/-- The JACKET_EXIT eye confirms the jacket release in flight (R141). -/
def State.jacketExitEdge (s : State) : State :=
  let s := s.noteEdge .jacketExit
  match s.dlv.stop with
  | .releasing r _ =>
    if s.table.delivery.length < 6 ∧ s.inState r .atJacket then
      let first := s.table.delivery.isEmpty
      let s := s.updBook r (fun b => { b with
        life := .toOutfeed, position := some (.c, s.captureOf .jacketExit) })
      let s := { s with
        table := { s.table with delivery := s.table.delivery ++ [r] }
        dlv := { s.dlv with stop := .empty } }
      (if first then s.newHead .outfeed else s).follow
    else s.setStop (.done r)
  | .empty | .waiting _ _ | .ejectInFlight _ _ | .inCycle _ _ | .done _ => s.unexpected .c

/-- A leading edge of an eye, handed on as the table of 4.2 gives (R64). -/
def State.leadingEdge (s : State) : Eye → State
  | .gauge => s.gaugeLeading
  | .stageEntry => s.watchEdge .stagingEntry
  | .release => s.releaseEdge
  | .reject => s.rejectEdge
  | .casing => s.watchEdge .casing
  | .casingExit => s.casingExitEdge
  | .pressEntry => s.watchEdge .pressEntry
  | .unload => s.unloadEdge
  | .jacket => s.watchEdge .jacket
  | .jacketExit => s.jacketExitEdge
  | .outfeed => s.watchEdge .outfeed

/-- A trailing edge of an eye: that of the GAUGE eye goes to the Gauge Unit, the others have no further
effect (R64). -/
def State.trailingEdge (s : State) : Eye → State
  | .gauge => (s.gaugeTrailing (s.captureOf .gauge)).follow
  | .stageEntry | .release | .reject | .casing | .casingExit | .pressEntry | .unload | .jacket
  | .jacketExit | .outfeed => s

end Sys2Proof.Machine
end

