-- ==== Sys2Proof/Machine/PointOps.lean ====
section
/-! DEFINITION. What the handshake inputs do to the units that own them, and how a change of a field
point's line or settings reaches its owner (chapters 6 to 9). -/

namespace Sys2Proof.Machine

/-! ### Case feeder and casing machine (chapter 6) -/

/-- The identity that a held scan hands over at a feed report (R8). -/
def heldIdentity : HeldScan → Identity
  | .holding i => .ident i
  | .empty => .unreadable
  | .conflict => .conflict

/-- CASE_FED becomes active: the held scan is handed over and emptied, and joins the case queue, or
CASE_OVERFEED is reported (R8, R94). -/
def State.onCaseFed (s : State) : State :=
  let identity := heldIdentity s.readers.heldCase
  let s := { s with readers := { s.readers with heldCase := .empty } }
  if s.stg.cases.length < 6 then
    { s with stg := { s.stg with cases := s.stg.cases ++ [CaseEntry.mk identity false] } }.stagingDecide
  else s.fault .b .caseOverfeed

/-- Clears the eject-overdue mark of the case queue (R107). -/
def State.clearOverdue (s : State) : State := { s with stg := { s.stg with overdue := false } }

/-- CASE_EJECTED becomes active: it confirms the eject in flight, or an overdue one, or is ignored
(R106, R107). -/
def State.onCaseEjected (s : State) : State :=
  if s.stg.side.ejecting then
    (s.removeEjectedCase.setSide (.idle .none)).stagingDecide.drainTests
  else if s.stg.overdue then s.removeEjectedCase.clearOverdue.stagingDecide
  else s

/-- CASING_DONE becomes active: the cycle in flight ends (R109). -/
def State.onCasingDone (s : State) : State :=
  match s.stg.casing with
  | .inCycle r _ => (s.setCasing (.cased r)).casingReleaseTest.drainTests
  | .empty | .approach _ | .cyclePending _ | .cased _ | .releasing _ _ => s

/-- CASING_FAULT becomes active: the cycle in flight ends, and the record is given CASING_FAULT
(R109). -/
def State.onCasingFault (s : State) : State :=
  match s.stg.casing with
  | .inCycle r _ => ((s.setReason r .casingFault).setCasing (.cased r)).casingReleaseTest.drainTests
  | .empty | .approach _ | .cyclePending _ | .cased _ | .releasing _ _ => s

/-! ### Press (chapter 7) -/

/-- INDEX_DONE becomes active: the index in flight is applied, and the changes are handed on (R125). -/
def State.onIndexDone (s : State) : State :=
  match s.press.index with
  | some op =>
    let first := s.table.jacketApproach.isEmpty
    let s := s.applyIndex op
    (if first then s.newHead .jacket else s).follow.pressTest
  | none => s

/-! ### Jacket feeder and jacketing machine (chapter 8) -/

/-- JACKET_FED becomes active: the held scan is handed over and emptied, and joins the jacket queue, or
JACKET_OVERFEED is reported (R8, R133). -/
def State.onJacketFed (s : State) : State :=
  let identity := heldIdentity s.readers.heldJacket
  let s := { s with readers := { s.readers with heldJacket := .empty } }
  if s.dlv.jackets.length < 6 then
    { s with dlv := { s.dlv with jackets := s.dlv.jackets ++ [identity] } }.jacketDecide
  else s.fault .c .jacketOverfeed

/-- Clears the eject-overdue mark of the jacket queue (R139). -/
def State.clearJacketOverdue (s : State) : State := { s with dlv := { s.dlv with overdue := false } }

/-- JACKET_EJECTED becomes active: it confirms the eject in flight, or an overdue one, or is ignored
(R139). -/
def State.onJacketEjected (s : State) : State :=
  match s.dlv.stop with
  | .ejectInFlight r _ =>
    (s.removeEjectedJacket.setStop (.waiting r none)).jacketDecide.drainTests
  | .empty | .waiting _ _ | .inCycle _ _ | .done _ | .releasing _ _ =>
    if s.dlv.overdue then s.removeEjectedJacket.clearJacketOverdue.jacketDecide else s

/-- JACKET_DONE becomes active: the cycle in flight ends, JACKETED (R140). -/
def State.onJacketDone (s : State) : State :=
  match s.dlv.stop with
  | .inCycle r _ => ((s.setJacketResult r .jacketed).setStop (.done r)).jacketReleaseTest
  | .empty | .waiting _ _ | .ejectInFlight _ _ | .done _ | .releasing _ _ => s

/-- JACKET_FAULT becomes active: the cycle in flight ends, UNJACKETED (R140). -/
def State.onJacketFault (s : State) : State :=
  match s.dlv.stop with
  | .inCycle r _ => ((s.setJacketResult r .unjacketed).setStop (.done r)).jacketReleaseTest
  | .empty | .waiting _ _ | .ejectInFlight _ _ | .done _ | .releasing _ _ => s

/-! ### The guard (9.6) -/

/-- Takes the guard again from point 27: a change from CLOSED to OPEN is a trip (R156). -/
def State.refreshGuard (s : State) : State :=
  let closed := s.reads 27
  let was := s.io.guardClosed
  let s := { s with io := { s.io with guardClosed := closed } }
  if was && !closed then s.trip else s

/-! ### Lines and readings (R158) -/

/-- Replaces a field point, by its number. -/
def State.setPoint (s : State) (n : Nat) (p : Point) : State :=
  { s with io := { s.io with points := s.io.points.set (n - 1) p } }

/-- The line of a point stands at a level. -/
def State.setLevel (s : State) (n : Nat) (high : Bool) : State :=
  s.setPoint n { s.point n with high := high }

/-- The level that a polarity calls active. -/
def activeLevel : Polarity → Bool
  | .highActive => true
  | .lowActive => false

/-- The line of an input point goes to the level its polarity calls active, and the point's owner takes
the change; a point that is not in INPUT mode reads inactive, and there is no change to take (R158). -/
def State.risingInput (s : State) (n : Nat) (edge : State → State) : State :=
  let t := s.setLevel n (activeLevel (s.point n).polarity)
  if (s.point n).mode = .input then edge t else t

/-- The line of an input point goes to the level its polarity calls inactive (R158). -/
def State.fallingInput (s : State) (n : Nat) (edge : State → State) : State :=
  let t := s.setLevel n (!activeLevel (s.point n).polarity)
  if (s.point n).mode = .input then edge t else t

/-- The belt whose encoder phase a point is, points 1 to 6 (4.1). -/
def phaseBelt? : Nat → Option Belt
  | 1 | 2 => some .a
  | 3 | 4 => some .b
  | 5 | 6 => some .c
  | _ => none

/-- The eye that a point is, points 7 to 17 (4.2). -/
def eyeOf? : Nat → Option Eye
  | 7 => some .gauge
  | 8 => some .stageEntry
  | 9 => some .release
  | 10 => some .reject
  | 11 => some .casing
  | 12 => some .casingExit
  | 13 => some .pressEntry
  | 14 => some .unload
  | 15 => some .jacket
  | 16 => some .jacketExit
  | 17 => some .outfeed
  | _ => none

/-- A handshake input, points 18 to 26, becomes active (R160). -/
def State.onHandshake (s : State) : Nat → State
  | 18 => s.onCaseFed
  | 19 => s.onCaseEjected
  | 20 => s.onCasingDone
  | 21 => s.onCasingFault
  | 22 => s.onIndexDone
  | 23 => s.onJacketFed
  | 24 => s.onJacketEjected
  | 25 => s.onJacketDone
  | 26 => s.onJacketFault
  | _ => s

/-- Hands a change of a point's reading to the unit that owns the role, given what it read before
(R158). -/
def State.readingChanged (s : State) (n : Nat) (before : Bool) : State :=
  let now := s.reads n
  if now = before then s
  else
    match phaseBelt? n, eyeOf? n with
    | some z, _ => s.takePhases z
    | none, some e => if now then s.leadingEdge e else s.trailingEdge e
    | none, none =>
      if n = 27 then s.refreshGuard else if now then s.onHandshake n else s

end Sys2Proof.Machine
end

