-- ==== Sys2Proof/Machine/LinkOps.lean ====
section
/-! DEFINITION. Power-on, the taking and answering of a request, the layout of what responses report, and
the expiry of timers: the operations that all families of commands share. -/

namespace Sys2Proof.Machine

/-! ### Power-on (R9, R10, R13, R33, R54, R58, R63, R64, R78, R91, R115, R131, R146, R148, R156, R158,
R161, R163, R169) -/

/-- The points at their power-on settings; their lines keep their levels (R158). -/
def pointsAtPowerOn (ps : List Point) : List Point :=
  (List.range 48).map (fun i => Point.atPowerOn (i + 1) ((ps[i]?).map (·.high) == some true))

/-- The effects of power-on, with a restart cause. The levels of the lines and the commands that wait
come from outside and stand; the phase states and the guard are taken as the points then read. -/
def State.powerOn (s : State) (cause : RestartCause) : State :=
  let t : State := { State.reset with
    pending := s.pending
    cause := cause
    link := { State.reset.link with draws := s.link.draws }
    io := ⟨pointsAtPowerOn s.io.points, false, false⟩ }
  { t with
    trk := { t.trk with belts :=
      ⟨BeltState.initial (t.phaseReading .a), BeltState.initial (t.phaseReading .b),
        BeltState.initial (t.phaseReading .c)⟩ }
    io := { t.io with guardClosed := t.reads 27 } }

/-! ### Requests (R164) -/

/-- What a request does and answers, from its body. -/
abbrev Handler := List Byte → State → State × Reply

/-- Frames a response and begins to send it: the receive state is ANSWERING until it has been sent
(R164). -/
def State.respond (s : State) (code : Byte) (r : Reply) : State :=
  { s with link := { s.link with
      rx := .answering
      response := responseFrame code r.status (fillBody s.link.draws r.body)
      draws := s.link.draws + 1 } }

/-- Takes a request whole and answers it; while a response is being sent nothing is taken (R164). -/
def State.takeRequest (s : State) (code : Byte) (h : Handler) (body : List Byte) : State :=
  if s.link.rx = .answering then s else ((h body s).1).respond code (h body s).2

/-- A refusal that changes nothing (R164). -/
def State.refused (s : State) (st : Status) : State × Reply := (s, refuse st)

/-- A request that carries no body: one with a body is refused BAD_LENGTH. -/
def noBody (h : State → State × Reply) : Handler := fun body s =>
  if body.isEmpty then h s else s.refused .badLength

/-! ### Layout of what responses report (R162, log entries 9 and 13) -/

/-- A template copy: the fields of 2.2 but for the copies ordered, in the order of its table. -/
def templateBody (t : Template) : Body :=
  num 4 t.order ++ one (matchCode t.mode) ++ num 2 t.trim ++ num 2 t.lengthTol ++ num 2 t.board ++
    num 1 t.rounding ++ num 2 t.spine ++ num 1 t.spineTol ++ one (flagCode t.looseAccept) ++
    num 4 t.dwell ++ one (jacketModeCode t.jacket) ++ one (flagCode t.proofFirst)

/-- An order's template: every field of 2.2, in the order of its table. -/
def orderTemplateBody (t : Template) (copies : Nat) : Body :=
  num 4 t.order ++ one (matchCode t.mode) ++ num 2 copies ++ num 2 t.trim ++ num 2 t.lengthTol ++
    num 2 t.board ++ num 1 t.rounding ++ num 2 t.spine ++ num 1 t.spineTol ++
    one (flagCode t.looseAccept) ++ num 4 t.dwell ++ one (jacketModeCode t.jacket) ++
    one (flagCode t.proofFirst)

/-- The counters of an order, in the order of 2.1. -/
def countersBody (c : Counters) : Body :=
  num 4 c.admitted ++ num 4 c.inProcess ++ num 4 c.good ++ num 4 c.inspect ++ num 4 c.rejected ++
    num 4 c.lost ++ num 4 c.removed ++ num 4 c.casesEjected ++ num 4 c.jacketsEjected

/-- A named value that may be absent. -/
def optOne (v : Option Nat) : Body := optNum 1 v

/-- An identifier that may be absent. -/
def optIdent (i : Option Ident) : Body := optional 12 (i.map identBody)

/-- A binding, which may be absent, with its unbound reason where it has one (R49). -/
def bindingBody : Option Binding → Body
  | some (.unbound why) => optOne (some 2) ++ optOne (some (reasonCode why))
  | some .bound => optOne (some 0) ++ optOne none
  | some .early => optOne (some 1) ++ optOne none
  | none => optOne none ++ optOne none

/-- The outcome reason of a REJECTED record (R46). -/
def outcomeReason : BookOutcome → Option Reason
  | .rejected why => why
  | .good | .inspect | .lost | .removed => none

/-- An outcome, which may be absent, with its reason where it has one (R49). -/
def outcomeBody (o : Option BookOutcome) : Body :=
  optOne (o.map outcomeCode) ++ optOne ((o.bind outcomeReason).map reasonCode)

/-- A sample as it is sent; INVALID has no number of its own (log entry 6). -/
def sampleBody : Option Sample → Body
  | some (.value v) => optNum 2 (some v)
  | some .invalid => optNum 2 (some Config.invalidSample.toNat)
  | none => optNum 2 none

/-- The four samples. -/
def samplesBody (ss : List (Option Sample)) : Body :=
  sampleBody (ss.getD 0 none) ++ sampleBody (ss.getD 1 none) ++ sampleBody (ss.getD 2 none) ++
    sampleBody (ss.getD 3 none)

/-- Every field of a record, in the order of the table of 3.2 (R49). -/
def bookBody (b : Book) : Body :=
  num 1 b.slot ++ num 4 b.seq ++ num 4 b.created.toNat ++ optIdent b.ident ++
    optNum 4 b.order? ++ optNum 2 b.copy? ++ bindingBody b.binding ++ one (flagCode b.badRead) ++
    optional 22 (b.tmpl.map templateBody) ++ num 2 b.lead.toNat ++
    optNum 2 (b.trail.map (·.toNat)) ++ samplesBody b.samples ++ optNum 2 b.thickness ++
    optNum 4 b.lm ++ optNum 2 b.spread ++ optNum 2 b.sr ++ optOne (b.verdict.map verdictCode) ++
    optOne (b.reason.map reasonCode) ++ optIdent b.marriedCase ++ optIdent b.marriedJacket ++
    optOne (b.jacketResult.map jacketResultCode) ++ one (flagCode b.proof) ++
    optOne (b.lane.map laneCode) ++ one (lifeCode b.life) ++
    optional 3 (b.position.map (fun p => one (zoneCode (beltZone p.1)) ++ num 2 p.2.toNat)) ++
    optional 6 (b.press.map (fun d => one d.pocket ++ num 4 d.loadTime.toNat ++ one d.laps)) ++
    outcomeBody b.outcome ++ optNum 4 (b.retiredAt.map (·.toNat)) ++
    optOne (b.lifeAtRetirement.map lifeCode)

/-! ### Timers -/

/-- A timed command: its timer, if it runs, expires, and then its effect comes about (log entry 10). A
timer that does not run cannot expire. -/
def State.expire (s : State) (timer : Option Timer) (effect : State → State) : State :=
  match timer with
  | some t => effect (s.reach t)
  | none => s

/-- A timer that has run for its time expires. -/
def State.expireIfDue (s : State) (timer : Option Timer) (effect : State → State) : State :=
  match timer with
  | some t => if t.due s.clock then effect s else s
  | none => s

end Sys2Proof.Machine
end

