-- ==== Sys2Proof/Machine/TimerOps.lean ====
section
/-! DEFINITION. The timers of the block: which timer runs in a state, and what its expiry does. -/

namespace Sys2Proof.Machine

/-! ### The supervisor link and the reader ports -/

/-- A frame is being gathered: LENGTH, BODY or CHECK. -/
def RxState.gathering : RxState → Bool
  | .length | .body _ | .check _ => true
  | .hunting | .answering => false

/-- The gap timer of the supervisor link, 20 ms, while a frame is gathered (R163). -/
def State.linkGapTimer (s : State) : Option Timer :=
  if s.link.rx.gathering then some ⟨s.link.last, 20⟩ else none

/-- The frame is discarded (R163). -/
def State.discardFrame (s : State) : State :=
  { s with link := { s.link with rx := .hunting, buffer := [] } }

/-- The text in reception of a port. -/
def State.text (s : State) : Port → RxText
  | .blockPort => s.readers.blockText
  | .casePort => s.readers.caseText
  | .jacketPort => s.readers.jacketText

/-- Replaces the text in reception of a port. -/
def State.setText (s : State) (p : Port) (t : RxText) : State :=
  { s with readers :=
    match p with
    | .blockPort => { s.readers with blockText := t }
    | .casePort => { s.readers with caseText := t }
    | .jacketPort => { s.readers with jacketText := t } }

/-- The gap timer of a reader port: it has run for more than 50 ms at the 51st (R5). -/
def State.readerGapTimer (s : State) (p : Port) : Option Timer :=
  if (s.text p).count = 0 then none else some ⟨(s.text p).last, 51⟩

/-- The held scan after a scan outcome of its port (R7). -/
def HeldScan.after (h : HeldScan) : ScanOutcome → HeldScan
  | .badForm | .badCheck => h
  | .valid i =>
    match h with
    | .empty => .holding i
    | .holding j => if i = j then .holding j else .conflict
    | .conflict => .conflict

/-- A scan outcome of the block port goes to the open read window, or is dropped (R6). -/
def State.blockScan (s : State) (o : ScanOutcome) : State :=
  match s.gauge.current with
  | some g =>
    match g.window, o with
    | some w, .valid i => s.setGauging (some { g with window := some { w with idents := w.idents ++ [i] } })
    | some w, .badForm => s.setGauging (some { g with window := some { w with bad := true } })
    | some w, .badCheck => s.setGauging (some { g with window := some { w with bad := true } })
    | none, _ => s
  | none => s

/-- A scan outcome is delivered by its port (R6, R7). -/
def State.deliverScan (s : State) (p : Port) (o : ScanOutcome) : State :=
  match p with
  | .blockPort => s.blockScan o
  | .casePort => { s with readers := { s.readers with heldCase := s.readers.heldCase.after o } }
  | .jacketPort => { s with readers := { s.readers with heldJacket := s.readers.heldJacket.after o } }

/-- The text in reception is discarded; its outcome is BAD_FORM (R5). -/
def State.discardText (s : State) (p : Port) : State :=
  (s.setText p RxText.none).deliverScan p .badForm

/-! ### Staging and casing (chapter 6) -/

/-- The release timeout of the staging release in flight (R104). -/
def State.stagingReleaseTimer (s : State) : Option Timer :=
  match s.stg.side with
  | .forwardInFlight t | .rejectInFlight t => some t
  | .idle _ | .ejectInFlight _ => none

/-- The staging release is taken as never commanded, and STAGING_JAM is reported (R104). -/
def State.onStagingReleaseTimeout (s : State) : State :=
  let t := match s.stg.side with
    | .forwardInFlight _ => s.unreserve
    | .idle _ | .rejectInFlight _ | .ejectInFlight _ => s
  ((t.setSide (.idle .none)).fault .b .stagingJam).drainTests

/-- The release timeout of the casing release in flight (R112). -/
def State.casingReleaseTimer (s : State) : Option Timer :=
  match s.stg.casing with
  | .releasing _ t => some t
  | .empty | .approach _ | .cyclePending _ | .inCycle _ _ | .cased _ => none

/-- The casing release is taken as never commanded, and STAGING_JAM is reported (R112). -/
def State.onCasingReleaseTimeout (s : State) : State :=
  match s.stg.casing with
  | .releasing r _ => (s.setCasing (.cased r)).fault .b .stagingJam
  | .empty | .approach _ | .cyclePending _ | .inCycle _ _ | .cased _ => s

/-- The eject timeout of the case eject in flight (R107). -/
def State.caseEjectTimer (s : State) : Option Timer :=
  match s.stg.side with
  | .ejectInFlight t => some t
  | .idle _ | .forwardInFlight _ | .rejectInFlight _ => none

/-- The case eject is overdue, and CASE_EJECT is reported (R107). -/
def State.onCaseEjectTimeout (s : State) : State :=
  { s with stg := { s.stg with side := .idle .none, overdue := true } }.fault .b .caseEject

/-- The casing timeout of the cycle in flight (R110). -/
def State.casingTimer (s : State) : Option Timer :=
  match s.stg.casing with
  | .inCycle _ t => some t
  | .empty | .approach _ | .cyclePending _ | .cased _ | .releasing _ _ => none

/-- The casing cycle has not answered: CASING_TIMEOUT on the record and for zone B (R110). -/
def State.onCasingTimeout (s : State) : State :=
  match s.stg.casing with
  | .inCycle r _ => ((s.setReason r .casingTimeout).setCasing (.cased r)).fault .b .casingTimeout
  | .empty | .approach _ | .cyclePending _ | .cased _ | .releasing _ _ => s

/-- The early-hold timer of the staging head (R99). -/
def State.earlyHoldTimer (s : State) : Option Timer :=
  match s.stg.side with
  | .idle (.earlyHold t) => some t
  | .idle .none | .idle .casingBusy | .idle (.caseWait _) | .forwardInFlight _ | .rejectInFlight _
  | .ejectInFlight _ => none

/-- The staging head has waited long enough for its order: it becomes unbound NO_ORDER, and the head
decision is made again (R99). -/
def State.onEarlyHoldExpiry (s : State) : State :=
  let t := s.setSide (.idle .none)
  match s.stg.queue.head? with
  | some r => (t.unbind r .noOrder).stagingDecide
  | none => t

/-- The case-wait timer of the staging head (R100). -/
def State.caseWaitTimer (s : State) : Option Timer :=
  match s.stg.side with
  | .idle (.caseWait t) => some t
  | .idle .none | .idle .casingBusy | .idle (.earlyHold _) | .forwardInFlight _ | .rejectInFlight _
  | .ejectInFlight _ => none

/-- The staging head has waited long enough for its case: it is given NO_CASE, and the head decision is
made again (R100). -/
def State.onCaseWaitExpiry (s : State) : State :=
  let t := s.setSide (.idle .none)
  match s.stg.queue.head? with
  | some r => (t.setReason r .noCase).stagingDecide
  | none => t

/-! ### Press (chapter 7) -/

/-- The timeout of the index in flight (R129). -/
def State.indexTimeoutTimer (s : State) : Option Timer := s.press.index.map (·.timer)

/-- The index is taken as not made, and INDEX_TIMEOUT is reported (R129). -/
def State.onIndexTimeout (s : State) : State :=
  (s.tripPress.fault .p .indexTimeout).drainTests.pressTest

/-- The grace of the awaited unload (R127). -/
def State.unloadGraceTimer (s : State) : Option Timer := s.press.awaited.map (·.2)

/-- The awaited unload is lost: its record retires LOST and MISSING is reported for zone C; the next
record becomes head if it was the head of the jacket watch point (R128). -/
def State.onUnloadGraceExpiry (s : State) : State :=
  match s.press.awaited with
  | some (r, _) =>
    let wasHead := decide (s.table.jacketApproach.head? = some r)
    let t := (s.retire r .lost).fault .c .missing
    let t := { t with press := { t.press with awaited := none } }
    (if wasHead then t.newHead .jacket else t).follow.pressTest
  | none => s

/-! ### Jacketing and delivery (chapter 8) -/

/-- The timeout of the jacket eject in flight (R139). -/
def State.jacketEjectTimer (s : State) : Option Timer :=
  match s.dlv.stop with
  | .ejectInFlight _ t => some t
  | .empty | .waiting _ _ | .inCycle _ _ | .done _ | .releasing _ _ => none

/-- The jacket eject is overdue, and JACKET_EJECT is reported (R139). -/
def State.onJacketEjectTimeout (s : State) : State :=
  match s.dlv.stop with
  | .ejectInFlight r _ =>
    { s with dlv := { s.dlv with stop := .waiting r none, overdue := true } }.fault .c .jacketEject
  | .empty | .waiting _ _ | .inCycle _ _ | .done _ | .releasing _ _ => s

/-- The timeout of the jacket cycle in flight (R140). -/
def State.jacketCycleTimer (s : State) : Option Timer :=
  match s.dlv.stop with
  | .inCycle _ t => some t
  | .empty | .waiting _ _ | .ejectInFlight _ _ | .done _ | .releasing _ _ => none

/-- The jacket cycle has not answered: UNJACKETED, and JACKET_TIMEOUT is reported (R140). -/
def State.onJacketCycleTimeout (s : State) : State :=
  match s.dlv.stop with
  | .inCycle r _ =>
    ((s.setJacketResult r .unjacketed).fault .c .jacketTimeout).setStop (.done r)
  | .empty | .waiting _ _ | .ejectInFlight _ _ | .done _ | .releasing _ _ => s

/-- The release timeout of the jacket release in flight (R141). -/
def State.jacketReleaseTimer (s : State) : Option Timer :=
  match s.dlv.stop with
  | .releasing _ t => some t
  | .empty | .waiting _ _ | .ejectInFlight _ _ | .inCycle _ _ | .done _ => none

/-- The jacket release is taken as never commanded, JACKET_JAM is reported, and the stop is full again
(R141). -/
def State.onJacketReleaseTimeout (s : State) : State :=
  match s.dlv.stop with
  | .releasing r _ => ((s.fault .c .jacketJam).setStop (.done r)).bpTest .c
  | .empty | .waiting _ _ | .ejectInFlight _ _ | .inCycle _ _ | .done _ => s

/-- The jacket-wait timer of the record at the stop (R138). -/
def State.jacketWaitTimer (s : State) : Option Timer :=
  match s.dlv.stop with
  | .waiting _ t => t
  | .empty | .ejectInFlight _ _ | .inCycle _ _ | .done _ | .releasing _ _ => none

/-- The record at the stop has waited long enough for a jacket: UNJACKETED, and the release is tested
(R138). -/
def State.onJacketWaitExpiry (s : State) : State :=
  match s.dlv.stop with
  | .waiting r _ => ((s.setJacketResult r .unjacketed).setStop (.done r)).jacketReleaseTest
  | .empty | .ejectInFlight _ _ | .inCycle _ _ | .done _ | .releasing _ _ => s

/-! ### Belt speed (R63) -/

/-- The speed period in progress, 250 ms (R63). -/
def State.speedTimer (s : State) : Option Timer := some ⟨s.trk.periodStart, 250⟩

/-- The belt speed in mm/s of a period's net count, with the scale in µm per count (R63). -/
def beltSpeed (net : Int) (scale : Nat) : Int :=
  let magnitude : Int := halfUp (net.natAbs * scale * 4) 1000
  if net < 0 then -magnitude else magnitude

/-- A belt at the end of a speed period; the next period is computed with the scale now in force
(R63, R76). -/
def BeltState.endPeriod (k : BeltState) (scale : Nat) : BeltState :=
  { k with speed := beltSpeed k.net k.periodScale, net := 0, periodScale := scale }

/-- The speed period ends: the speed of each belt is computed and the next period begins (R63). -/
def State.onSpeedPeriod (s : State) : State :=
  { s with trk := { s.trk with
      belts := ⟨(s.belt .a).endPeriod s.cfg.scale.a, (s.belt .b).endPeriod s.cfg.scale.b,
        (s.belt .c).endPeriod s.cfg.scale.c⟩
      periodStart := s.trk.periodStart + 250#32 } }

/-! ### The passing of time (log entry 2) -/

/-- Every timer with what its expiry does, in the fixed order in which those due at one moment expire. -/
def timedEffects : List ((State → Option Timer) × (State → State)) :=
  [(State.linkGapTimer, State.discardFrame),
    ((·.readerGapTimer .blockPort), (·.discardText .blockPort)),
    ((·.readerGapTimer .casePort), (·.discardText .casePort)),
    ((·.readerGapTimer .jacketPort), (·.discardText .jacketPort)),
    (State.speedTimer, State.onSpeedPeriod),
    (State.stagingReleaseTimer, State.onStagingReleaseTimeout),
    (State.caseEjectTimer, State.onCaseEjectTimeout),
    (State.earlyHoldTimer, State.onEarlyHoldExpiry),
    (State.caseWaitTimer, State.onCaseWaitExpiry),
    (State.casingTimer, State.onCasingTimeout),
    (State.casingReleaseTimer, State.onCasingReleaseTimeout),
    (State.indexTimeoutTimer, State.onIndexTimeout),
    (State.unloadGraceTimer, State.onUnloadGraceExpiry),
    (State.jacketEjectTimer, State.onJacketEjectTimeout),
    (State.jacketCycleTimer, State.onJacketCycleTimeout),
    (State.jacketReleaseTimer, State.onJacketReleaseTimeout),
    (State.jacketWaitTimer, State.onJacketWaitExpiry)]

/-- The idle step: the line clock advances by 1 ms, every timer that has run for its time expires, each as
the expiries before it have left it, and an index that has become due is commanded. -/
def State.tick (s : State) : State :=
  (timedEffects.foldl (fun (t : State) p => t.expireIfDue (p.1 t) p.2)
    { s with clock := s.clock + 1#32 }).pressTest

end Sys2Proof.Machine
end

