-- ==== Sys2Proof/Machine/Belts.lean ====
section
/-! DEFINITION. The encoders, the counts' tests, the eyes and the belt speed (chapters 4 and 5). -/

namespace Sys2Proof.Machine

/-- ENCODER_PHASE_CHANGE: the two phase lines of a belt stand at the given levels, and the phase
readings are taken (R59, R60). -/
def execEncoderPhaseChange (z : Belt) (x y : Bool) (s : State) : Host.Outcome State Fault Refusal :=
  .next (((s.setLevel (phasePoints z).1 x).setLevel (phasePoints z).2 y).takePhases z)

/-- BACK_TRAVEL (R61). -/
def execBackTravel (z : Belt) (s : State) : Host.Outcome State Fault Refusal :=
  .next (s.backTravelTest z).follow

/-- SAMPLE_POINT (R81). -/
def execSamplePoint (s : State) : Host.Outcome State Fault Refusal := .next s.sampleTest.follow

/-- SPAN_OVERRUN (R83). -/
def execSpanOverrun (s : State) : Host.Outcome State Fault Refusal := .next s.spanTest.follow

/-- READ_WINDOW_CLOSE (R84). -/
def execReadWindowClose (s : State) : Host.Outcome State Fault Refusal := .next s.windowTest.follow

/-- WATCH_WINDOW_OPEN (R67). -/
def execWatchWindowOpen (w : Watch) (s : State) : Host.Outcome State Fault Refusal :=
  .next (s.openTest w).follow

/-- HEAD_MISSING (R70). -/
def execHeadMissing (w : Watch) (s : State) : Host.Outcome State Fault Refusal :=
  .next (s.missingTest w).follow

/-- An eye's beam is blocked: its point reads active, and the edge is taken (R64). -/
def State.eyeBlocked (s : State) (e : Eye) : State := s.risingInput (eyePoint e) (·.leadingEdge e)

/-- An eye's beam clears: its point reads inactive, and the edge is taken (R64). -/
def State.eyeClears (s : State) (e : Eye) : State := s.fallingInput (eyePoint e) (·.trailingEdge e)

/-- GAUGE_LEADING_EDGE (R42). -/
def execGaugeLeadingEdge (s : State) : Host.Outcome State Fault Refusal := .next (s.eyeBlocked .gauge)

/-- GAUGE_TRAILING_EDGE (R82). -/
def execGaugeTrailingEdge (s : State) : Host.Outcome State Fault Refusal := .next (s.eyeClears .gauge)

/-- EYE_TRAILING_EDGE (R64). -/
def execEyeTrailingEdge (e : Eye) (s : State) : Host.Outcome State Fault Refusal :=
  .next (s.eyeClears e)

/-- WATCH_POINT_ARRIVAL: a leading edge at the eye of a watch point (R68, R69, R72). -/
def execWatchPointArrival (w : Watch) (s : State) : Host.Outcome State Fault Refusal :=
  .next (s.eyeBlocked (watchEye w))

/-- RELEASE_EYE_EDGE (R102, R65). -/
def execReleaseEyeEdge (s : State) : Host.Outcome State Fault Refusal := .next (s.eyeBlocked .release)

/-- REJECT_EYE_EDGE (R103, R65). -/
def execRejectEyeEdge (s : State) : Host.Outcome State Fault Refusal := .next (s.eyeBlocked .reject)

/-- CASING_EXIT_EYE_EDGE (R111, R65). -/
def execCasingExitEyeEdge (s : State) : Host.Outcome State Fault Refusal :=
  .next (s.eyeBlocked .casingExit)

/-- UNLOAD_EYE_EDGE (R127, R65). -/
def execUnloadEyeEdge (s : State) : Host.Outcome State Fault Refusal := .next (s.eyeBlocked .unload)

/-- JACKET_EXIT_EYE_EDGE (R141, R65). -/
def execJacketExitEyeEdge (s : State) : Host.Outcome State Fault Refusal :=
  .next (s.eyeBlocked .jacketExit)

/-- SPEED_PERIOD (R63). -/
def execSpeedPeriod (s : State) : Host.Outcome State Fault Refusal :=
  .next (s.expire s.speedTimer State.onSpeedPeriod)

end Sys2Proof.Machine
end

