-- ==== Sys2Proof/Machine/Delivery.lean ====
section
/-! DEFINITION. The commands of the Delivery Unit (chapter 8). -/

namespace Sys2Proof.Machine

/-- JACKET_FED becomes active (R8, R133). -/
def execJacketFed (s : State) : Host.Outcome State Fault Refusal :=
  .next (s.risingInput 23 State.onJacketFed)

/-- JACKET_EJECTED becomes active (R139). -/
def execJacketEjected (s : State) : Host.Outcome State Fault Refusal :=
  .next (s.risingInput 24 State.onJacketEjected)

/-- JACKET_DONE becomes active (R140). -/
def execJacketDone (s : State) : Host.Outcome State Fault Refusal :=
  .next (s.risingInput 25 State.onJacketDone)

/-- JACKET_FAULT becomes active (R140). -/
def execJacketFault (s : State) : Host.Outcome State Fault Refusal :=
  .next (s.risingInput 26 State.onJacketFault)

/-- JACKET_STOP_DECISION (R137). -/
def execJacketStopDecision (s : State) : Host.Outcome State Fault Refusal := .next s.jacketDecide

/-- JACKET_RELEASE_COMMAND (R141). -/
def execJacketReleaseCommand (s : State) : Host.Outcome State Fault Refusal :=
  .next s.jacketReleaseTest

/-- JACKET_EJECT_TIMEOUT (R139). -/
def execJacketEjectTimeout (s : State) : Host.Outcome State Fault Refusal :=
  .next (s.expire s.jacketEjectTimer State.onJacketEjectTimeout)

/-- JACKET_CYCLE_TIMEOUT (R140). -/
def execJacketCycleTimeout (s : State) : Host.Outcome State Fault Refusal :=
  .next (s.expire s.jacketCycleTimer State.onJacketCycleTimeout)

/-- JACKET_RELEASE_TIMEOUT (R141). -/
def execJacketReleaseTimeout (s : State) : Host.Outcome State Fault Refusal :=
  .next (s.expire s.jacketReleaseTimer State.onJacketReleaseTimeout)

/-- JACKET_WAIT_EXPIRY (R138). -/
def execJacketWaitExpiry (s : State) : Host.Outcome State Fault Refusal :=
  .next (s.expire s.jacketWaitTimer State.onJacketWaitExpiry)

end Sys2Proof.Machine
end

