-- ==== Sys2Proof/Machine/Guard.lean ====
section
/-! DEFINITION. The guard and the end of a drain (chapter 9). -/

namespace Sys2Proof.Machine

/-- GUARD_OPENS: the guard line goes inactive; a change from CLOSED to OPEN is a trip (R156). -/
def execGuardOpens (s : State) : Host.Outcome State Fault Refusal :=
  .next (s.fallingInput 27 State.refreshGuard)

/-- GUARD_CLOSES: the guard line goes active; nothing is rearmed and no zone is moved (R156). -/
def execGuardCloses (s : State) : Host.Outcome State Fault Refusal :=
  .next (s.risingInput 27 State.refreshGuard)

/-- DRAIN_END (R150). -/
def execDrainEnd (z : Zone) (s : State) : Host.Outcome State Fault Refusal := .next (s.drainTest z)

end Sys2Proof.Machine
end

