-- ==== Sys2Proof/Machine/BookRequests.lean ====
section
/-! DEFINITION. The requests of the Book Table: READ BOOK, FIND BOOK, LIST OUTCOMES, COLLECT and MARK
REJECT (3.9). -/

namespace Sys2Proof.Machine

/-- What READ BOOK does: nothing but answer (R49). -/
def onReadBook : Handler := fun body s =>
  match splitFields [1] body with
  | some [r] =>
    if inRange 1 96 r then
      match s.book? r with
      | none => s.refused .notFound
      | some b => (s, ⟨.ok, bookBody b⟩)
    else s.refused .outOfRange
  | _ => s.refused .badLength

/-! ### FIND BOOK (R50) -/

/-- A record stands above a bound: a bound of 0 takes all, and otherwise its sequence lies 1 to
2,147,483,647 places after the bound in the counting of R35, whose period is 4,294,967,295 (R50). -/
def aboveBound (bound seq : Nat) : Bool :=
  decide (bound = 0) ||
    inRange 1 2147483647 ((seq + 4294967295 - bound % 4294967295) % 4294967295)

/-- One match as FIND BOOK reports it (R50). -/
def findLine (b : Book) : Body :=
  num 1 b.slot ++ num 4 b.seq ++ one (lifeCode b.life) ++ bindingBody b.binding ++
    outcomeBody b.outcome

/-- The records that match a test and stand above the bound, in sequence order (R50). -/
def State.findBooks (s : State) (bound : Nat) (test : Book → Bool) : List Book :=
  s.table.books.filter (fun b => test b && aboveBound bound b.seq)

/-- The answer of a search: the total, and up to the first 8 matches (R50). -/
def State.answerFind (s : State) (found : List Book) : State × Reply :=
  if found.isEmpty then s.refused .notFound
  else (s, ⟨.ok, num 1 found.length ++ lines ((found.take 8).map findLine)⟩)

/-- The search by identifier, from its key and bound (R50). -/
def State.findByIdentifier (s : State) (key : List Byte) (bound : Nat) : State × Reply :=
  match judgeText key key.length with
  | .valid i => s.answerFind (s.findBooks bound (fun b => decide (b.ident = some i)))
  | .badForm | .badCheck => s.refused .outOfRange

/-- The search by copy, from order number, copy number and bound (R50). -/
def State.findByCopy (s : State) (order copy bound : Nat) : State × Reply :=
  if inRange 1 999999 order && inRange 1 9999 copy then
    s.answerFind (s.findBooks bound (fun b =>
      decide (b.order? = some order) && decide (b.copy? = some copy)))
  else s.refused .outOfRange

/-- What FIND BOOK does: nothing but answer. The length tested is that of the kind named; a kind that is
neither of the two is refused OUT_OF_RANGE when the length is that of either (R50, log entry 14). -/
def onFindBook : Handler := fun body s =>
  match body with
  | [] => s.refused .badLength
  | kind :: rest =>
    if kind = 0#8 then
      if rest.length = 16 then s.findByIdentifier (rest.take 12) (readBE (rest.drop 12))
      else s.refused .badLength
    else if kind = 1#8 then
      match splitFields [4, 2, 4] rest with
      | some [order, copy, bound] => s.findByCopy order copy bound
      | _ => s.refused .badLength
    else if rest.length = 16 ∨ rest.length = 10 then s.refused .outOfRange
    else s.refused .badLength

/-! ### LIST OUTCOMES (R51) -/

/-- The outcome of a retired record and its reason: the outcome is never absent here, so it takes no
presence byte, and the reason is absent but for REJECTED (R51, R52, log entry 33). -/
def retiredBody (b : Book) : Body :=
  one ((b.outcome.map outcomeCode).getD 0) ++ optOne ((b.outcome.bind outcomeReason).map reasonCode)

/-- One line of LIST OUTCOMES (R51). -/
def outcomeLine (b : Book) : Body :=
  num 1 b.slot ++ num 4 b.seq ++ optNum 4 b.order? ++ optNum 2 b.copy? ++ retiredBody b ++
    num 4 ((b.retiredAt.map (·.toNat)).getD 0)

/-- What LIST OUTCOMES does: nothing but answer (R51). -/
def onListOutcomes : Handler := noBody (fun s =>
  (s, ⟨.ok, num 1 s.outcomeCount ++
    lines (((s.table.outcomes.take 12).filterMap s.book?).map outcomeLine)⟩))

/-! ### COLLECT and MARK REJECT (R52, R53) -/

/-- A sequence given with a slot names the record in it: 0 means any (R52, R53). -/
def seqNames (seq : Nat) (b : Book) : Bool := decide (seq = 0) || decide (seq = b.seq)

/-- The record of a slot is discarded and leaves the outcome list; the slot is free (R52). -/
def State.collect (s : State) (r : Nat) : State :=
  { s with table := { s.table with
      books := s.table.books.filter (fun b => b.slot != r)
      outcomes := s.table.outcomes.filter (· != r) } }

/-- What COLLECT does (R52). -/
def onCollect : Handler := fun body s =>
  match splitFields [1, 4] body with
  | some [r, seq] =>
    if inRange 1 96 r then
      match s.book? r with
      | none => s.refused .notFound
      | some b =>
        if !seqNames seq b then s.refused .notFound
        else if b.live then s.refused .wrongState
        else (s.collect r, ⟨.ok, num 1 r ++ num 4 b.seq ++ retiredBody b⟩)
    else s.refused .outOfRange
  | _ => s.refused .badLength

/-- What MARK REJECT does (R53). The reason is never absent in its answer (log entry 33). The stations
decide again, since a head may have been given a reason (R96, R137). -/
def onMarkReject : Handler := fun body s =>
  match splitFields [1, 4] body with
  | some [r, seq] =>
    if inRange 1 96 r then
      match s.book? r with
      | none => s.refused .notFound
      | some b =>
        if !seqNames seq b then s.refused .notFound
        else if !b.live then s.refused .tooLate
        else if b.lane.isSome then s.refused .tooLate
        else ((s.setReason r .requested).announce,
          ⟨.ok, one (reasonCode (b.reason.getD .requested))⟩)
    else s.refused .outOfRange
  | _ => s.refused .badLength

/-! ### The commands -/

/-- READ BOOK (R49). -/
def execReadBook (body : List Byte) (s : State) : Host.Outcome State Fault Refusal :=
  .next (s.takeRequest 0x20#8 onReadBook body)

/-- FIND BOOK (R50). -/
def execFindBook (body : List Byte) (s : State) : Host.Outcome State Fault Refusal :=
  .next (s.takeRequest 0x21#8 onFindBook body)

/-- LIST OUTCOMES (R51). -/
def execListOutcomes (body : List Byte) (s : State) : Host.Outcome State Fault Refusal :=
  .next (s.takeRequest 0x22#8 onListOutcomes body)

/-- COLLECT (R52). -/
def execCollect (body : List Byte) (s : State) : Host.Outcome State Fault Refusal :=
  .next (s.takeRequest 0x23#8 onCollect body)

/-- MARK REJECT (R53). -/
def execMarkReject (body : List Byte) (s : State) : Host.Outcome State Fault Refusal :=
  .next (s.takeRequest 0x24#8 onMarkReject body)

end Sys2Proof.Machine
end

