-- ==== Sys2Proof/Machine/OrderRequests.lean ====
section
/-! DEFINITION. The requests of the Order Table and of the Admit Set (chapter 2 and 1.5). -/

namespace Sys2Proof.Machine

/-! ### LOAD ORDER (R14, R15, R16) -/

/-- The bytes of a LOAD ORDER: the order number and the template fields of 2.2 in the table's order. -/
def loadWidths : List Nat := [4, 1, 2, 2, 2, 2, 1, 2, 1, 1, 4, 1, 1]

/-- The copies ordered that a match mode allows (2.2). -/
def maxCopies : MatchMode → Nat
  | .copyExact => 256
  | .title => 9999

/-- The template and the copies ordered that the fields of a LOAD ORDER give, when each lies in its
range (2.2, R14 test 2). -/
def templateOf : List Nat → Option (Template × Nat)
  | [order, mode, copies, trim, lengthTol, board, rounding, spine, spineTol, loose, dwell, jacket,
      proof] =>
    match matchOfCode mode, flagOfCode loose, jacketModeOfCode jacket, flagOfCode proof with
    | some mode, some loose, some jacket, some proof =>
      if inRange 1 999999 order && inRange 1 (maxCopies mode) copies && inRange 10000 45000 trim
          && inRange 20 500 lengthTol && inRange 100 400 board && inRange 0 150 rounding
          && inRange 600 11000 spine && inRange 0 200 spineTol && inRange 2000 600000 dwell then
        some (⟨order, mode, trim, lengthTol, board, rounding, spine, spineTol, loose, dwell, jacket,
          proof⟩, copies)
      else none
    | _, _, _, _ => none
  | _ => none

/-- A new order entry (R15). -/
def newOrder (slot : Nat) (t : Template) (copies : Nat) : Order where
  slot := slot
  tmpl := t
  copies := copies
  state := .openOrder
  counters := ⟨0, 0, 0, 0, 0, 0, 0, 0, 0⟩
  proofTaken := false
  unreported := false
  copyMap := match t.mode with
    | .copyExact => List.replicate copies .notSeen
    | .title => []

/-- The live EARLY records of an order, in sequence order, each with its block identifier (R16). -/
def State.earlyRecords (s : State) (n : Nat) : List (Nat × Ident) :=
  s.table.books.filterMap (fun b =>
    if b.live && decide (b.binding = some .early) && decide (b.order? = some n) then
      b.ident.map (fun i => (b.slot, i))
    else none)

/-- Identifies early records one at a time, each against the entry as the ones before it left it
(R16). -/
def State.identifyAll (s : State) (rs : List (Nat × Ident)) : State :=
  rs.foldl (fun s r => s.identifyAs r.1 r.2) s

/-- How many of these records are BOUND. -/
def State.boundAmong (s : State) (rs : List (Nat × Ident)) : Nat :=
  rs.countP (fun r => (s.book? r.1).bind (·.binding) == some .bound)

/-- An accepted load: the entry is made and the early records of the order are identified (R15, R16). -/
def State.loadOrder (s : State) (slot : Nat) (t : Template) (copies : Nat) : State :=
  ({ s with orders := s.orders ++ [newOrder slot t copies] }).identifyAll (s.earlyRecords t.order)

/-- What LOAD ORDER does (R14, R15). -/
def onLoadOrder : Handler := fun body s =>
  match splitFields loadWidths body with
  | none => s.refused .badLength
  | some vs =>
    match templateOf vs with
    | none => s.refused .outOfRange
    | some (t, copies) =>
      match s.order? t.order, s.lowestFreeEntry? with
      | some _, _ => s.refused .exists_
      | none, none => s.refused .tableFull
      | none, some slot =>
        let early := s.earlyRecords t.order
        let loaded := s.loadOrder slot t copies
        (loaded.announce,
          ⟨.ok, num 1 slot ++ num 1 early.length ++ num 1 (loaded.boundAmong early)⟩)

/-! ### AMEND ORDER (R19) -/

/-- The bytes of an AMEND ORDER: order number, spine tolerance, length tolerance, loose accept, dwell,
jacket mode, proof first, copies ordered (R19). -/
def amendWidths : List Nat := [4, 1, 2, 1, 4, 1, 1, 2]

/-- The amended template and copies ordered, when each field lies in its range and the copies do not
fall (R19 test 3). -/
def amended (o : Order) : List Nat → Option (Template × Nat)
  | [_, spineTol, lengthTol, loose, dwell, jacket, proof, copies] =>
    match flagOfCode loose, jacketModeOfCode jacket, flagOfCode proof with
    | some loose, some jacket, some proof =>
      if inRange 0 200 spineTol && inRange 20 500 lengthTol && inRange 2000 600000 dwell
          && inRange o.copies (maxCopies o.tmpl.mode) copies then
        some ({ o.tmpl with
          spineTol := spineTol
          lengthTol := lengthTol
          looseAccept := loose
          dwell := dwell
          jacket := jacket
          proofFirst := proof }, copies)
      else none
    | _, _, _ => none
  | _ => none

/-- An order with its template and copies ordered amended; when the copies rise, the copy map is
extended and a COMPLETE order is OPEN again (R19). -/
def Order.amend (o : Order) (t : Template) (copies : Nat) : Order :=
  let rises := o.copies < copies
  { o with
    tmpl := t
    copies := copies
    copyMap := match t.mode with
      | .copyExact => o.copyMap ++ List.replicate (copies - o.copies) .notSeen
      | .title => o.copyMap
    state := if rises ∧ o.state = .complete then .openOrder else o.state
    unreported := if rises ∧ o.state = .complete then false else o.unreported }

/-- What AMEND ORDER does (R19). -/
def onAmendOrder : Handler := fun body s =>
  match splitFields amendWidths body with
  | none => s.refused .badLength
  | some vs =>
    match s.order? (vs.getD 0 0) with
    | none => s.refused .notFound
    | some o =>
      match amended o vs with
      | none => s.refused .outOfRange
      | some (t, copies) =>
        ((s.updOrder o.tmpl.order (fun o => o.amend t copies)).announce, ⟨.ok, []⟩)

/-! ### HOLD, RESUME, CLOSE (R17, R18, R20) -/

/-- What HOLD ORDER does (R17). -/
def onHoldOrder : Handler := fun body s =>
  match splitFields [4] body with
  | some [n] =>
    match s.order? n with
    | none => s.refused .notFound
    | some o =>
      if o.state = .openOrder then
        ((s.updOrder n (fun o => { o with state := .held })).stagingDecide, ⟨.ok, []⟩)
      else s.refused .wrongState
  | _ => s.refused .badLength

/-- What RESUME ORDER does (R18). -/
def onResumeOrder : Handler := fun body s =>
  match splitFields [4] body with
  | some [n] =>
    match s.order? n with
    | none => s.refused .notFound
    | some o =>
      if o.state = .held then
        ((s.updOrder n (fun o => { o with state := .openOrder })).stagingDecide, ⟨.ok, []⟩)
      else s.refused .wrongState
  | _ => s.refused .badLength

/-- Removes the entry of an order number (R20). -/
def State.dropOrder (s : State) (n : Nat) : State :=
  { s with orders := s.orders.filter (fun o => o.tmpl.order != n) }

/-- What CLOSE ORDER does; the response reports the final account (R20). -/
def onCloseOrder : Handler := fun body s =>
  match splitFields [4] body with
  | some [n] =>
    match s.order? n with
    | none => s.refused .notFound
    | some o =>
      if 0 < o.counters.inProcess then s.refused .inUse
      else ((s.dropOrder n).announce,
        ⟨.ok, countersBody o.counters ++ one (orderStateCode o.state)⟩)
  | _ => s.refused .badLength

/-! ### READ ORDER and READ COPY MAP (R21, R22) -/

/-- What READ ORDER reports of one order (R21). -/
def orderBody (o : Order) : Body :=
  num 1 o.slot ++ orderTemplateBody o.tmpl o.copies ++ one (orderStateCode o.state) ++
    countersBody o.counters ++ one (flagCode o.proofTaken) ++ one (flagCode o.unreported)

/-- One line of the listing form (R21). -/
def orderLine (o : Order) : Body :=
  num 1 o.slot ++ num 4 o.tmpl.order ++ one (matchCode o.tmpl.mode) ++ one (orderStateCode o.state) ++
    num 2 o.copies ++ num 4 o.counters.inProcess ++ num 4 (o.counters.good + o.counters.inspect) ++
    one (flagCode o.unreported)

/-- The entries from a start slot upward, in ascending entry slot order, up to 12 (R13, R21). -/
def State.ordersFrom (s : State) (start : Nat) : List Order :=
  (((List.range 24).map (· + 1)).filterMap (fun n =>
    if start ≤ n then s.orders.find? (fun o => o.slot == n) else none)).take 12

/-- What READ ORDER does: reading one order acknowledges its completion; the listing form changes
nothing (R21). -/
def onReadOrder : Handler := fun body s =>
  match splitFields [4, 1] body with
  | some [n, start] =>
    if 999999 < n then s.refused .outOfRange
    else if n = 0 then
      if inRange 1 24 start then
        (s, ⟨.ok, num 1 s.orders.length ++ lines ((s.ordersFrom start).map orderLine)⟩)
      else s.refused .outOfRange
    else
      match s.order? n with
      | none => s.refused .notFound
      | some o => (s.updOrder n (fun o => { o with unreported := false }), ⟨.ok, orderBody o⟩)
  | _ => s.refused .badLength

/-- What READ COPY MAP reports of one copy: its state, and the slot of the live record bound to it when
it is IN_PROCESS (R22). -/
def State.copyLine (s : State) (order copy : Nat) (st : CopyState) : Body :=
  one (copyStateCode st) ++
    optNum 1 (if st = .inProcess then (s.boundRecord? order copy).map (·.slot) else none)

/-- What READ COPY MAP does: nothing but answer (R22). -/
def onReadCopyMap : Handler := fun body s =>
  match splitFields [4, 2, 1] body with
  | some [n, start, count] =>
    match s.order? n with
    | none => s.refused .notFound
    | some o =>
      if inRange 1 64 count && decide (o.tmpl.mode = .copyExact) && inRange 1 o.copies start then
        let sts := (o.copyMap.drop (start - 1)).take count
        (s, ⟨.ok, lines (sts.mapIdx (fun i st => s.copyLine n (start + i) st))⟩)
      else s.refused .outOfRange
  | _ => s.refused .badLength

/-! ### ADMIT ADD and ADMIT CLEAR (R11, R12) -/

/-- Sets the entry of an order number in an Admit Set (R11). -/
def admitOne (a : BitVec 512) (n : Nat) : BitVec 512 := a ||| BitVec.twoPow 512 (admitIndex n)

/-- The Admit Set after the order numbers are taken in turn, and the line reported for each: the index
and whether its entry was set before this number was taken (R11). That a line does not repeat its order
number is the model's choice (log entry 13). -/
def admitAll : BitVec 512 → List Nat → BitVec 512 × List Body
  | a, [] => (a, [])
  | a, n :: ns =>
    let line := num 2 (admitIndex n) ++ one (flagCode (a.getLsbD (admitIndex n)))
    ((admitAll (admitOne a n) ns).1, line :: (admitAll (admitOne a n) ns).2)

/-- What ADMIT ADD does (R11). -/
def onAdmitAdd : Handler := fun body s =>
  match body with
  | [] => s.refused .badLength
  | count :: rest =>
    match splitFields (List.replicate count.toNat 4) rest with
    | none => s.refused .badLength
    | some ns =>
      if inRange 1 8 count.toNat && ns.all (inRange 1 999999) then
        ({ s with admitSet := (admitAll s.admitSet ns).1 }, ⟨.ok, lines (admitAll s.admitSet ns).2⟩)
      else s.refused .outOfRange

/-- The number of entries of the Admit Set that are set. -/
def admitCount (a : BitVec 512) : Nat := (List.range 512).countP a.getLsbD

/-- What ADMIT CLEAR does (R12). -/
def onAdmitClear : Handler := noBody (fun s =>
  ({ s with admitSet := 0#512 }, ⟨.ok, num 2 (admitCount s.admitSet)⟩))

/-! ### The commands -/

/-- LOAD ORDER (R14, R15, R16). -/
def execLoadOrder (body : List Byte) (s : State) : Host.Outcome State Fault Refusal :=
  .next (s.takeRequest 0x10#8 onLoadOrder body)

/-- AMEND ORDER (R19). -/
def execAmendOrder (body : List Byte) (s : State) : Host.Outcome State Fault Refusal :=
  .next (s.takeRequest 0x11#8 onAmendOrder body)

/-- HOLD ORDER (R17). -/
def execHoldOrder (body : List Byte) (s : State) : Host.Outcome State Fault Refusal :=
  .next (s.takeRequest 0x12#8 onHoldOrder body)

/-- RESUME ORDER (R18). -/
def execResumeOrder (body : List Byte) (s : State) : Host.Outcome State Fault Refusal :=
  .next (s.takeRequest 0x13#8 onResumeOrder body)

/-- CLOSE ORDER (R20). -/
def execCloseOrder (body : List Byte) (s : State) : Host.Outcome State Fault Refusal :=
  .next (s.takeRequest 0x14#8 onCloseOrder body)

/-- READ ORDER (R21). -/
def execReadOrder (body : List Byte) (s : State) : Host.Outcome State Fault Refusal :=
  .next (s.takeRequest 0x15#8 onReadOrder body)

/-- READ COPY MAP (R22). -/
def execReadCopyMap (body : List Byte) (s : State) : Host.Outcome State Fault Refusal :=
  .next (s.takeRequest 0x16#8 onReadCopyMap body)

/-- ADMIT ADD (R11). -/
def execAdmitAdd (body : List Byte) (s : State) : Host.Outcome State Fault Refusal :=
  .next (s.takeRequest 0x18#8 onAdmitAdd body)

/-- ADMIT CLEAR (R12). -/
def execAdmitClear (body : List Byte) (s : State) : Host.Outcome State Fault Refusal :=
  .next (s.takeRequest 0x19#8 onAdmitClear body)

end Sys2Proof.Machine
end

