-- ==== Sys2Proof/Machine/PointRequests.lean ====
section
/-! DEFINITION. The requests of the Guard and Point Unit: SET POINT, READ POINTS and REARM OUTPUTS
(chapter 9). -/

namespace Sys2Proof.Machine

/-! ### SET POINT (R159) -/

/-- A zone that uses the point is RUNNING or DRAINING (R159 test 3, R160). -/
def State.pointInUse (s : State) (n : Nat) : Bool :=
  [Zone.a, .b, .p, .c].any (fun z => s.active z && (zonePoints z).contains n)

/-- A point's settings as they are stored: a pull-up of on with SINK, SOURCE or OFF is stored as off
(R159). -/
def storedPoint (p : Point) (mode : PointMode) (pullUp : Bool) (pol : Polarity) : Point :=
  { p with mode := mode, pullUp := pullUp && decide (mode = .input), polarity := pol }

/-- Stores a point's settings; they take effect at once, on its reading as on its output (R158). -/
def State.applyPoint (s : State) (n : Nat) (mode : PointMode) (pullUp : Bool) (pol : Polarity) :
    State :=
  (s.setPoint n (storedPoint (s.point n) mode pullUp pol)).readingChanged n (s.reads n)

/-- The settings of a point as READ POINTS and SET POINT report them. -/
def settingsBody (p : Point) : Body :=
  one (pointModeCode p.mode) ++ one (flagCode p.pullUp) ++ one (polarityCode p.polarity)

/-- What SET POINT does (R159). -/
def onSetPoint : Handler := fun body s =>
  match splitFields [1, 1, 1, 1] body with
  | some [n, m, u, l] =>
    match inRange 1 48 n, pointModeOfCode m, flagOfCode u, polarityOfCode l with
    | true, some mode, some pullUp, some pol =>
      if s.pointInUse n then s.refused .wrongState
      else (s.applyPoint n mode pullUp pol,
        ⟨.ok, settingsBody (storedPoint (s.point n) mode pullUp pol)⟩)
    | _, _, _, _ => s.refused .outOfRange
  | _ => s.refused .badLength

/-! ### READ POINTS (R158) -/

/-- The line of READ POINTS for one point: role, settings, level where the point is read, reading or
driven value, and the owner's request for an output role (R158). The level is that of the line as it
stands: the spec gives none for the line of an output role in INPUT mode, which no command moves, nor what
a pull-up does to a line. DESIGN CHOICE, unsafe (log entry 34). -/
def State.pointBody (s : State) (n : Nat) : Body :=
  let p := s.point n
  one (Config.roleByte n).toNat ++ settingsBody p ++
    optOne (if p.mode = .input then some (flagCode p.high) else none) ++
    one (flagCode (if isInputRole n then p.reading else s.driven n)) ++
    optOne (if isInputRole n then none else some (flagCode (s.ownerRequest n)))

/-- The capture and the time of an eye's last leading edge (R64). -/
def eyeBody (e : Option (Count × Clock)) : Body :=
  optional 6 (e.map (fun c => num 2 c.1.toNat ++ num 4 c.2.toNat))

/-- The points that READ POINTS reports: up to 16 from the first point upward, none beyond 48. -/
def pointsFrom (first : Nat) : List Nat :=
  ((List.range 16).map (· + first)).filter (fun n => decide (n ≤ 48))

/-- What READ POINTS does: nothing but answer (R158). -/
def onReadPoints : Handler := fun body s =>
  match splitFields [1] body with
  | some [first] =>
    if inRange 1 48 first then
      (s, ⟨.ok, lines ((pointsFrom first).map s.pointBody) ++ s.trk.eyes.flatMap eyeBody ++
        optNum 2 s.gauge.held⟩)
    else s.refused .outOfRange
  | _ => s.refused .badLength

/-! ### REARM OUTPUTS (R157) -/

/-- A zone at the rearming: TRIPPED becomes STOPPED without a code and FAULTED with one (R157). -/
def ZoneCtl.rearm (k : ZoneCtl) : ZoneCtl :=
  if k.state = .tripped then
    { k with state := match k.code with | none => .stopped | some _ => .faulted }
  else k

/-- The outputs arm, the TRIPPED zones are moved, and the units test what waited for the arming (R157,
R121, R137, R141). -/
def State.rearm (s : State) : State :=
  { s with
    io := { s.io with armed := true }
    zones := ⟨s.zones.a.rearm, s.zones.b.rearm, s.zones.p.rearm, s.zones.c.rearm⟩
    }.jacketDecide.jacketReleaseTest.pressTest

/-- What REARM OUTPUTS does (R157). -/
def onRearmOutputs : Handler := noBody (fun s =>
  if !s.io.guardClosed then s.refused .guardOpen
  else if s.io.armed then (s, ⟨.ok, []⟩)
  else (s.rearm, ⟨.ok, []⟩))

/-! ### The commands -/

/-- SET POINT (R159). -/
def execSetPoint (body : List Byte) (s : State) : Host.Outcome State Fault Refusal :=
  .next (s.takeRequest 0x04#8 onSetPoint body)

/-- READ POINTS (R158). -/
def execReadPoints (body : List Byte) (s : State) : Host.Outcome State Fault Refusal :=
  .next (s.takeRequest 0x05#8 onReadPoints body)

/-- REARM OUTPUTS (R157). -/
def execRearmOutputs (body : List Byte) (s : State) : Host.Outcome State Fault Refusal :=
  .next (s.takeRequest 0x35#8 onRearmOutputs body)

end Sys2Proof.Machine
end

