-- ==== Sys2Proof/Machine/SystemRequests.lean ====
section
/-! DEFINITION. The requests that the Link Interface owns: STATUS, READ CONFIG, SET CONFIG, TRACKING
RESET and RESTART (chapter 10). -/

namespace Sys2Proof.Machine

/-! ### STATUS (R165) -/

/-- The part of STATUS that reports one zone: state, latched code, further faults flag. -/
def zoneBody (k : ZoneCtl) : Body :=
  one (zoneStateCode k.state) ++ optOne (k.code.map faultCodeCode) ++ one (flagCode k.further)

/-- The part of STATUS that reports one belt: back-pressure, counter, forward mark, direction, speed. -/
def beltBody (k : BeltState) : Body :=
  one (flagCode k.backPressure) ++ num 2 k.count.toNat ++ num 2 k.mark.toNat ++
    one (directionCode k.direction) ++ speedBytes k.speed

/-- ARMED is 0 and DISARMED is 1: the order in which R156 names them. -/
def armingCode (armed : Bool) : Nat := if armed then 0 else 1

/-- OPEN is 0 and CLOSED is 1: the order in which R156 names them. -/
def guardCode (closed : Bool) : Nat := if closed then 1 else 0

/-- The body of an OK response to STATUS (R165). -/
def State.statusBody (s : State) : Body :=
  num 4 s.clock.toNat ++ zoneBody s.zones.a ++ zoneBody s.zones.b ++ zoneBody s.zones.p ++
    zoneBody s.zones.c ++ beltBody (s.belt .a) ++ beltBody (s.belt .b) ++ beltBody (s.belt .c) ++
    one (armingCode s.io.armed) ++ one (guardCode s.io.guardClosed) ++ num 1 s.freeSlots ++
    num 1 s.liveCount ++ num 1 s.outcomeCount ++ num 1 s.stg.cases.length ++
    num 1 s.dlv.jackets.length ++ num 2 s.press.period ++ num 1 s.unreportedCount ++
    one (causeCode s.cause) ++ one (flagCode s.attention)

/-- What STATUS does: nothing but answer (R165). -/
def onStatus : Handler := noBody (fun s => (s, ⟨.ok, s.statusBody⟩))

/-! ### READ CONFIG and SET CONFIG (R166) -/

/-- What READ CONFIG does: nothing but answer. -/
def onReadConfig : Handler := noBody (fun s => (s, ⟨.ok, cfgBody s.cfg⟩))

/-- Every zone is STOPPED (R166 step 2). -/
def State.allStopped (s : State) : Bool :=
  [Zone.a, .b, .p, .c].all (fun z => decide (s.zoneState z = .stopped))

/-- A belt after an accepted SET CONFIG: no count has been taken yet with the new values (R76, R90). -/
def BeltState.newValues (k : BeltState) : BeltState := { k with counted := false }

/-- The state with a configuration in force, which no count of a belt has met yet. -/
def State.putCfg (s : State) (c : Cfg) : State :=
  { s with
    cfg := c
    trk := { s.trk with
      belts := ⟨(s.belt .a).newValues, (s.belt .b).newValues, (s.belt .c).newValues⟩ } }

/-- Puts a configuration in force, and lets each block act on it (R166, R71, R73, R74, R76, R90, R120):
every watch point head is tested again, in the order of the table of 4.3, which is the model's choice (log
entry 11). Nothing else moves a timer or an operation in flight (R116, R132, R147). -/
def State.configure (s : State) (c : Cfg) : State :=
  let t := [Watch.stagingEntry, .casing, .pressEntry, .jacket, .outfeed].foldl State.retest (s.putCfg c)
  t.bpTests.recomputePeriod.follow

/-- What SET CONFIG does (R166). -/
def onSetConfig : Handler := fun body s =>
  match splitFields (cfgRows.map (·.1)) body with
  | none => s.refused .badLength
  | some vs =>
    if !s.allStopped then s.refused .wrongState
    else if !cfgInRange vs then s.refused .outOfRange
    else if !cfgConstraints (cfgOfValues vs) then s.refused .outOfRange
    else (s.configure (cfgOfValues vs), ⟨.ok, cfgBody (cfgOfValues vs)⟩)

/-! ### TRACKING RESET (R168) -/

/-- Retires every record of a list with outcome REMOVED, in the list's order (R46, R55, R56). -/
def State.removeAll (s : State) (rs : List Nat) : State := rs.foldl (fun s r => s.retire r .removed) s

/-- The slots of the live records in sequence order (R35). -/
def State.liveSlots (s : State) : List Nat := (s.table.books.filter Book.live).map (·.slot)

/-- A belt after TRACKING RESET: the counter, mark and direction are reset and back-pressure is clear;
the phase state and the speed go on (R62, R74, R78). -/
def BeltState.trackingReset (k : BeltState) : BeltState :=
  { k with
    count := 0#16
    mark := 0#16
    direction := .forward
    backPressure := false
    backReported := false
    counted := false }

/-- A zone after TRACKING RESET: FAULTED becomes STOPPED without a code (R168). -/
def ZoneCtl.trackingReset (k : ZoneCtl) : ZoneCtl :=
  if k.state = .faulted then ⟨.stopped, none, false⟩ else k

/-- The effects of an accepted TRACKING RESET (R168, with R9, R55, R62, R64, R74, R91, R115, R131,
R146). -/
def State.trackingReset (s : State) : State :=
  let s := s.removeAll s.liveSlots
  { s with
    table := { s.table with
      lastLead := none
      transit := []
      pressApproach := []
      jacketApproach := []
      delivery := [] }
    trk := { s.trk with
      belts := ⟨(s.belt .a).trackingReset, (s.belt .b).trackingReset, (s.belt .c).trackingReset⟩
      opened := ⟨false, false, false, false, false⟩
      eyes := List.replicate 11 none }
    gauge := { s.gauge with current := none }
    stg := StagingUnit.initial
    press := { PressUnit.initial with period := s.cfg.pMin }
    dlv := DeliveryUnit.initial
    readers := { s.readers with heldCase := .empty, heldJacket := .empty }
    zones := ⟨s.zones.a.trackingReset, s.zones.b.trackingReset, s.zones.p.trackingReset,
      s.zones.c.trackingReset⟩ }

/-- TRACKING RESET is accepted: every zone is STOPPED or FAULTED and no operation is in flight
(R168). -/
def State.resettable (s : State) : Bool :=
  [Zone.a, .b, .p, .c].all (fun z =>
    decide (s.zoneState z = .stopped ∨ s.zoneState z = .faulted)) && !s.anyInFlight

/-- What TRACKING RESET does (R168). -/
def onTrackingReset : Handler := noBody (fun s =>
  if s.resettable then (s.trackingReset, ⟨.ok, num 1 s.liveCount⟩) else s.refused .wrongState)

/-! ### RESTART (R169) -/

/-- What RESTART does: its effects follow once its response has been sent (R169). -/
def onRestart : Handler := noBody (fun s =>
  ({ s with link := { s.link with restartDue := true } }, ⟨.ok, []⟩))

/-! ### The commands -/

/-- STATUS (R165). -/
def execStatus (body : List Byte) (s : State) : Host.Outcome State Fault Refusal :=
  .next (s.takeRequest 0x01#8 onStatus body)

/-- READ CONFIG (R166). -/
def execReadConfig (body : List Byte) (s : State) : Host.Outcome State Fault Refusal :=
  .next (s.takeRequest 0x02#8 onReadConfig body)

/-- SET CONFIG (R166). -/
def execSetConfig (body : List Byte) (s : State) : Host.Outcome State Fault Refusal :=
  .next (s.takeRequest 0x03#8 onSetConfig body)

/-- TRACKING RESET (R168). -/
def execTrackingReset (body : List Byte) (s : State) : Host.Outcome State Fault Refusal :=
  .next (s.takeRequest 0x36#8 onTrackingReset body)

/-- RESTART (R169). -/
def execRestart (body : List Byte) (s : State) : Host.Outcome State Fault Refusal :=
  .next (s.takeRequest 0x3F#8 onRestart body)

end Sys2Proof.Machine
end

