-- ==== Sys2Proof/Machine/ZoneRequests.lean ====
section
/-! DEFINITION. The zone requests: ZONE RUN, ZONE STOP, ZONE HALT, PURGE and CLEAR FAULTS (chapter 9). -/

namespace Sys2Proof.Machine

/-- A request that carries one zone: a wrong length is refused BAD_LENGTH and anything but A, B, P or C
is refused OUT_OF_RANGE (9.1). -/
def oneZone (h : Zone → State → State × Reply) : Handler := fun body s =>
  match splitFields [1] body with
  | some [c] =>
    match zoneOfCode c with
    | some z => h z s
    | none => s.refused .outOfRange
  | _ => s.refused .badLength

/-! ### ZONE RUN, ZONE STOP, ZONE HALT (R149, R150, R151) -/

/-- The tests of a run from STOPPED or DRAINING, and the run (R149). -/
def State.tryRun (s : State) (z : Zone) : State × Reply :=
  if !s.io.guardClosed || !s.io.armed then s.refused .guardOpen
  else
    match s.unsuitable? z with
    | some n => (s, ⟨.pointMode, num 1 n⟩)
    | none => (s.enterRunning z, ⟨.ok, []⟩)

/-- What ZONE RUN does (R149). -/
def onZoneRun : Handler := oneZone (fun z s =>
  match s.zoneState z with
  | .stopped | .draining => s.tryRun z
  | .running => (s, ⟨.ok, []⟩)
  | .faulted => s.refused .wrongState
  | .tripped => s.refused .guardOpen)

/-- What the units test when a zone enters DRAINING: the Press Unit an index, the Delivery Unit its stop
decision and release (R121, R137, R141). -/
def State.enterDraining (s : State) (z : Zone) : State :=
  let t := (s.setZone z .draining).drainTest z
  match z with
  | .a | .b => t
  | .p => t.pressTest
  | .c => t.jacketDecide.jacketReleaseTest

/-- What ZONE STOP does (R150). -/
def onZoneStop : Handler := oneZone (fun z s =>
  match s.zoneState z with
  | .running => (s.enterDraining z, ⟨.ok, []⟩)
  | .stopped | .draining => (s, ⟨.ok, []⟩)
  | .faulted | .tripped => s.refused .wrongState)

/-- What ZONE HALT does (R151). -/
def onZoneHalt : Handler := oneZone (fun z s =>
  match s.zoneState z with
  | .running | .draining => (s.setZone z .stopped, ⟨.ok, []⟩)
  | .stopped => (s, ⟨.ok, []⟩)
  | .faulted | .tripped => s.refused .wrongState)

/-! ### PURGE (R154) -/

/-- A record in a placement collection of the zone (R56). -/
def Book.inZone (b : Book) : Zone → Bool
  | .a => decide (b.life = .gauging ∨ b.life = .toStaging ∨ b.life = .staged)
  | .b => decide (b.life = .toCasing ∨ b.life = .casing ∨ b.life = .toPress)
  | .p => decide (b.life = .pressQueued ∨ b.life = .pressing)
  | .c => decide (b.life = .toJacket ∨ b.life = .atJacket ∨ b.life = .toOutfeed)

/-- The slots of the records of a zone, in sequence order (R56, R35). -/
def State.zoneSlots (s : State) (z : Zone) : List Nat :=
  (s.table.books.filter (fun b => b.inZone z)).map (·.slot)

/-- PURGE is accepted: the zone is STOPPED or FAULTED and no operation is in flight for it (R154). -/
def State.purgeable (s : State) (z : Zone) : Bool :=
  decide (s.zoneState z = .stopped ∨ s.zoneState z = .faulted) && !s.inFlight z

/-- What the units do when their zone's records have been removed (R154 steps 2 and 3, R9, R99, R100,
R115, R143, R146). -/
def State.emptyZone (s : State) : Zone → State
  | .a => { s with stg := { s.stg with
      side := match s.stg.side with
        | .idle _ => .idle .none
        | .forwardInFlight t => .forwardInFlight t
        | .rejectInFlight t => .rejectInFlight t
        | .ejectInFlight t => .ejectInFlight t } }
  | .b => { s with
      stg := { s.stg with cases := [], overdue := false, casing := .empty }
      readers := { s.readers with heldCase := .empty } }
  | .p => s
  | .c => { s with
      dlv := { s.dlv with jackets := [], overdue := false, stop := .empty, gate := .good }
      readers := { s.readers with heldJacket := .empty } }

/-- The number of queue entries that a purge empties, for zones B and C (R154). -/
def State.purgedEntries (s : State) : Zone → Option Nat
  | .b => some s.stg.cases.length
  | .c => some s.dlv.jackets.length
  | .a | .p => none

/-- The opened flags of the watch points of a purged zone, which have no head any more (R73). -/
def State.closeWatches (s : State) : Zone → State
  | .a => s.setOpened .stagingEntry false
  | .b => (s.setOpened .casing false).setOpened .pressEntry false
  | .c => (s.setOpened .jacket false).setOpened .outfeed false
  | .p => s

/-- An accepted purge (R154). -/
def State.purge (s : State) (z : Zone) : State :=
  (((s.removeAll (s.zoneSlots z)).emptyZone z).closeWatches z).follow

/-- What PURGE does (R154). -/
def onPurge : Handler := oneZone (fun z s =>
  if s.purgeable z then
    (s.purge z, ⟨.ok, num 1 (s.zoneSlots z).length ++ optNum 1 (s.purgedEntries z)⟩)
  else s.refused .wrongState)

/-! ### CLEAR FAULTS (R153) -/

/-- The answer for one zone of the set, in the order in which R153 names them. -/
inductive ClearAnswer
  | cleared | persists | notFaulted
  deriving DecidableEq, Repr

def clearCode : ClearAnswer → Nat
  | .cleared => 0
  | .persists => 1
  | .notFaulted => 2

/-- The cause of a zone's fault persists: EYE_BLOCKED of zone A while the GAUGE eye reads active
(R153). -/
def State.causePersists (s : State) (z : Zone) : Bool :=
  decide (z = .a) && decide (s.zones.a.code = some .eyeBlocked) && s.reads 7

/-- The answer for a zone (R153). -/
def State.clearAnswer (s : State) (z : Zone) : ClearAnswer :=
  match s.zoneState z, (s.zones.get z).code with
  | .faulted, _ => if s.causePersists z then .persists else .cleared
  | .tripped, some _ => .cleared
  | .tripped, none | .stopped, _ | .running, _ | .draining, _ => .notFaulted

/-- A zone whose fault is cleared: FAULTED becomes STOPPED, TRIPPED stays (R153). -/
def ZoneCtl.clear (k : ZoneCtl) : ZoneCtl :=
  ⟨if k.state = .faulted then .stopped else k.state, none, false⟩

/-- Clears the fault of a zone, if it is answered CLEARED (R153). -/
def State.clearZone (s : State) (z : Zone) : State :=
  if s.clearAnswer z = .cleared then { s with zones := s.zones.set z (s.zones.get z).clear } else s

/-- The zones of a set in the order A, B, P, C. -/
def zoneSet (codes : List Byte) : List Zone :=
  [Zone.a, .b, .p, .c].filter (fun z => codes.any (fun c => c.toNat == zoneCode z))

/-- What CLEAR FAULTS does (R153). -/
def onClearFaults : Handler := fun body s =>
  match body with
  | [] => s.refused .badLength
  | count :: codes =>
    if codes.length ≠ count.toNat then s.refused .badLength
    else if inRange 1 4 count.toNat && codes.all (fun c => (zoneOfCode c.toNat).isSome) then
      let zs := zoneSet codes
      let reply := lines (zs.map (fun z => one (zoneCode z) ++ one (clearCode (s.clearAnswer z))))
      (zs.foldl State.clearZone s,
        ⟨if zs.any (fun z => decide (s.clearAnswer z = .persists)) then .persists else .ok, reply⟩)
    else s.refused .outOfRange

/-! ### The commands -/

/-- ZONE RUN (R149). -/
def execZoneRun (body : List Byte) (s : State) : Host.Outcome State Fault Refusal :=
  .next (s.takeRequest 0x30#8 onZoneRun body)

/-- ZONE STOP (R150). -/
def execZoneStop (body : List Byte) (s : State) : Host.Outcome State Fault Refusal :=
  .next (s.takeRequest 0x31#8 onZoneStop body)

/-- ZONE HALT (R151). -/
def execZoneHalt (body : List Byte) (s : State) : Host.Outcome State Fault Refusal :=
  .next (s.takeRequest 0x32#8 onZoneHalt body)

/-- PURGE (R154). -/
def execPurge (body : List Byte) (s : State) : Host.Outcome State Fault Refusal :=
  .next (s.takeRequest 0x33#8 onPurge body)

/-- CLEAR FAULTS (R153). -/
def execClearFaults (body : List Byte) (s : State) : Host.Outcome State Fault Refusal :=
  .next (s.takeRequest 0x34#8 onClearFaults body)

end Sys2Proof.Machine
end

