-- ==== Sys2Proof/Machine/Link.lean ====
section
/-! DEFINITION. Power-on, the bytes of the supervisor link, and the request whose code is in no table
(chapter 10). -/

namespace Sys2Proof.Machine

/-- What a request whose code is not in the table does: it is answered UNKNOWN_REQUEST (R164). -/
def onUnknown : Handler := fun _ s => s.refused .unknownRequest

/-- The block that owns a request, by its code (10.3). -/
def handlerOf (code : Byte) : Handler :=
  match code.toNat with
  | 0x01 => onStatus
  | 0x02 => onReadConfig
  | 0x03 => onSetConfig
  | 0x04 => onSetPoint
  | 0x05 => onReadPoints
  | 0x10 => onLoadOrder
  | 0x11 => onAmendOrder
  | 0x12 => onHoldOrder
  | 0x13 => onResumeOrder
  | 0x14 => onCloseOrder
  | 0x15 => onReadOrder
  | 0x16 => onReadCopyMap
  | 0x18 => onAdmitAdd
  | 0x19 => onAdmitClear
  | 0x20 => onReadBook
  | 0x21 => onFindBook
  | 0x22 => onListOutcomes
  | 0x23 => onCollect
  | 0x24 => onMarkReject
  | 0x30 => onZoneRun
  | 0x31 => onZoneStop
  | 0x32 => onZoneHalt
  | 0x33 => onPurge
  | 0x34 => onClearFaults
  | 0x35 => onRearmOutputs
  | 0x36 => onTrackingReset
  | 0x3F => onRestart
  | _ => onUnknown

/-- The receive state after a length byte (R163). -/
def afterLength (b : Byte) : RxState :=
  if 1 ≤ b.toNat ∧ b.toNat ≤ 250 then .body b.toNat else .hunting

/-- A good check byte: the length, code, body and check bytes sum to 0 mod 256 (R162). -/
def checkGood (l : Nat) (buffer : List Byte) (check : Byte) : Bool :=
  decide (BitVec.ofNat 8 l + byteSum buffer + check = 0#8)

/-- Takes the request in the frame buffer (R164). -/
def State.takeFrame (s : State) : State :=
  match s.link.buffer with
  | code :: body => s.takeRequest code (handlerOf code) body
  | [] => s.discardFrame

/-- A byte of the supervisor link, handled by the receive state it finds (R163). Each byte of a frame,
its start byte included, restarts the gap timer (log entry 15). -/
def State.linkByte (s : State) (b : Byte) : State :=
  let now := s.clock
  match s.link.rx with
  | .hunting =>
    if b = 0xA5#8 then { s with link := { s.link with rx := .length, buffer := [], last := now } }
    else s
  | .length => { s with link := { s.link with rx := afterLength b, last := now } }
  | .body l =>
    let buffer := s.link.buffer ++ [b]
    { s with link := { s.link with
        rx := if buffer.length = l then .check l else .body l
        buffer := buffer
        last := now } }
  | .check l =>
    if checkGood l s.link.buffer b then
      { s with link := { s.link with rx := .hunting, last := now } }.takeFrame
    else s.discardFrame
  | .answering => s

/-- The last byte of the response has been sent: HUNTING, and the effects of RESTART if its response it
was (R164, R169). -/
def State.responseSent (s : State) : State :=
  match s.link.rx with
  | .answering =>
    if s.link.restartDue then s.powerOn .requested
    else { s with link := { s.link with rx := .hunting, response := [] } }
  | .hunting | .length | .body _ | .check _ => s

/-! ### The commands -/

/-- POWER_ON (R161). -/
def execPowerOn (s : State) : Host.Outcome State Fault Refusal := .next (s.powerOn .powerOn)

/-- LINK_BYTE_RECEIVED (R163). -/
def execLinkByteReceived (b : Byte) (s : State) : Host.Outcome State Fault Refusal :=
  .next (s.linkByte b)

/-- LINK_GAP_TIMEOUT (R163). -/
def execLinkGapTimeout (s : State) : Host.Outcome State Fault Refusal :=
  .next (s.expire s.linkGapTimer State.discardFrame)

/-- RESPONSE_SENT (R164). -/
def execResponseSent (s : State) : Host.Outcome State Fault Refusal := .next s.responseSent

/-- UNKNOWN_REQUEST (R164). -/
def execUnknownRequest (code : Byte) (body : List Byte) (s : State) :
    Host.Outcome State Fault Refusal :=
  .next (s.takeRequest code onUnknown body)

end Sys2Proof.Machine
end

