-- ==== Sys2Proof/Machine/Press.lean ====
section
/-! DEFINITION. The commands of the Press Unit (chapter 7). -/

namespace Sys2Proof.Machine

/-- INDEX_DONE becomes active (R125). -/
def execIndexDone (s : State) : Host.Outcome State Fault Refusal :=
  .next (s.risingInput 22 State.onIndexDone)

/-- INDEX_COMMAND: when every other condition of R121 holds, the line clock reaches the last command
time plus P, if it has not, and the index is commanded (R121, R122, R123). -/
def execIndexCommand (s : State) : Host.Outcome State Fault Refusal :=
  if s.indexReady then
    match s.indexTimer with
    | some t => .next (s.reach t).pressTest
    | none => .next s.pressTest
  else .next s

/-- INDEX_TIMEOUT (R129). -/
def execIndexTimeout (s : State) : Host.Outcome State Fault Refusal :=
  .next (s.expire s.indexTimeoutTimer State.onIndexTimeout)

/-- UNLOAD_GRACE_EXPIRY (R128). -/
def execUnloadGraceExpiry (s : State) : Host.Outcome State Fault Refusal :=
  .next (s.expire s.unloadGraceTimer State.onUnloadGraceExpiry)

end Sys2Proof.Machine
end

