-- ==== Sys2Proof/Machine/Readers.lean ====
section
/-! DEFINITION. The reader ports and the thickness gauge (chapters 1 and 5). -/

namespace Sys2Proof.Machine

/-- A character added to the text in reception of a port, or starting one; the first 20 are stored, all
are counted, and the gap timer restarts (R3). -/
def State.addCharacter (s : State) (p : Port) (c : Byte) : State :=
  let t := s.text p
  s.setText p ⟨if t.stored.length < 20 then t.stored ++ [c] else t.stored, t.count + 1, s.clock⟩

/-- A carriage return: it ends a non-empty text, which is judged and delivered (R3, R4). -/
def State.endText (s : State) (p : Port) : State :=
  if (s.text p).count = 0 then s
  else (s.setText p RxText.none).deliverScan p (judgeText (s.text p).stored (s.text p).count)

/-- A character of a reader port, by the table of R3. One with a framing error is taken as the byte 0,
which is neither digit nor letter (log entry 16). -/
def State.readerCharacter (s : State) (p : Port) (c : Byte) (framingError : Bool) : State :=
  if framingError then s.addCharacter p 0#8
  else if c = 0x0D#8 then s.endText p
  else if c = 0x0A#8 ∧ (s.text p).count = 0 then s
  else s.addCharacter p c

/-- READER_CHARACTER (R3). -/
def execReaderCharacter (p : Port) (c : Byte) (framingError : Bool) (s : State) :
    Host.Outcome State Fault Refusal :=
  .next (s.readerCharacter p c framingError)

/-- READER_GAP_TIMEOUT (R5). -/
def execReaderGapTimeout (p : Port) (s : State) : Host.Outcome State Fault Refusal :=
  .next (s.expire (s.readerGapTimer p) (State.discardText · p))

/-- GAUGE_READING: the held reading is replaced; a value above 10000 is held as 10000 (R79). -/
def execGaugeReading (v : Nat) (s : State) : Host.Outcome State Fault Refusal :=
  .next { s with gauge := { s.gauge with held := some (min v 10000) } }

end Sys2Proof.Machine
end

