-- ==== Sys2Proof/Machine/Staging.lean ====
section
/-! DEFINITION. The commands of the Staging and Casing Unit (chapter 6). -/

namespace Sys2Proof.Machine

/-- CASE_FED becomes active (R8, R94). -/
def execCaseFed (s : State) : Host.Outcome State Fault Refusal :=
  .next (s.risingInput 18 State.onCaseFed)

/-- CASE_EJECTED becomes active (R106, R107). -/
def execCaseEjected (s : State) : Host.Outcome State Fault Refusal :=
  .next (s.risingInput 19 State.onCaseEjected)

/-- CASING_DONE becomes active (R109). -/
def execCasingDone (s : State) : Host.Outcome State Fault Refusal :=
  .next (s.risingInput 20 State.onCasingDone)

/-- CASING_FAULT becomes active (R109). -/
def execCasingFault (s : State) : Host.Outcome State Fault Refusal :=
  .next (s.risingInput 21 State.onCasingFault)

/-- STAGING_HEAD_DECISION (R96, R97, R98). -/
def execStagingHeadDecision (s : State) : Host.Outcome State Fault Refusal := .next s.stagingDecide

/-- CASING_CYCLE_BEGIN (R108). -/
def execCasingCycleBegin (s : State) : Host.Outcome State Fault Refusal := .next s.casingCycleTest

/-- CASING_RELEASE_COMMAND (R111). -/
def execCasingReleaseCommand (s : State) : Host.Outcome State Fault Refusal :=
  .next s.casingReleaseTest

/-- STAGING_RELEASE_TIMEOUT (R104). -/
def execStagingReleaseTimeout (s : State) : Host.Outcome State Fault Refusal :=
  .next (s.expire s.stagingReleaseTimer State.onStagingReleaseTimeout)

/-- CASING_RELEASE_TIMEOUT (R112). -/
def execCasingReleaseTimeout (s : State) : Host.Outcome State Fault Refusal :=
  .next (s.expire s.casingReleaseTimer State.onCasingReleaseTimeout)

/-- CASE_EJECT_TIMEOUT (R107). -/
def execCaseEjectTimeout (s : State) : Host.Outcome State Fault Refusal :=
  .next (s.expire s.caseEjectTimer State.onCaseEjectTimeout)

/-- CASING_TIMEOUT (R110). -/
def execCasingTimeout (s : State) : Host.Outcome State Fault Refusal :=
  .next (s.expire s.casingTimer State.onCasingTimeout)

/-- EARLY_HOLD_EXPIRY (R99). -/
def execEarlyHoldExpiry (s : State) : Host.Outcome State Fault Refusal :=
  .next (s.expire s.earlyHoldTimer State.onEarlyHoldExpiry)

/-- CASE_WAIT_EXPIRY (R100). -/
def execCaseWaitExpiry (s : State) : Host.Outcome State Fault Refusal :=
  .next (s.expire s.caseWaitTimer State.onCaseWaitExpiry)

end Sys2Proof.Machine
end

