-- ==== Sys2Proof/Machine/Dispatch.lean ====
section
/-! DEFINITION. The meaning of every command: one arm for each row of spec/opcode_table.json. -/

namespace Sys2Proof.Machine

def exec (i : Instr) (s : State) : Host.Outcome State Fault Refusal :=
  match i with
  | .powerOn => Sys2Proof.Machine.execPowerOn s
  | .linkByteReceived b => Sys2Proof.Machine.execLinkByteReceived b s
  | .linkGapTimeout => Sys2Proof.Machine.execLinkGapTimeout s
  | .responseSent => Sys2Proof.Machine.execResponseSent s
  | .unknownRequest code body => Sys2Proof.Machine.execUnknownRequest code body s
  | .status body => Sys2Proof.Machine.execStatus body s
  | .readConfig body => Sys2Proof.Machine.execReadConfig body s
  | .setConfig body => Sys2Proof.Machine.execSetConfig body s
  | .setPoint body => Sys2Proof.Machine.execSetPoint body s
  | .readPoints body => Sys2Proof.Machine.execReadPoints body s
  | .loadOrder body => Sys2Proof.Machine.execLoadOrder body s
  | .amendOrder body => Sys2Proof.Machine.execAmendOrder body s
  | .holdOrder body => Sys2Proof.Machine.execHoldOrder body s
  | .resumeOrder body => Sys2Proof.Machine.execResumeOrder body s
  | .closeOrder body => Sys2Proof.Machine.execCloseOrder body s
  | .readOrder body => Sys2Proof.Machine.execReadOrder body s
  | .readCopyMap body => Sys2Proof.Machine.execReadCopyMap body s
  | .admitAdd body => Sys2Proof.Machine.execAdmitAdd body s
  | .admitClear body => Sys2Proof.Machine.execAdmitClear body s
  | .readBook body => Sys2Proof.Machine.execReadBook body s
  | .findBook body => Sys2Proof.Machine.execFindBook body s
  | .listOutcomes body => Sys2Proof.Machine.execListOutcomes body s
  | .collect body => Sys2Proof.Machine.execCollect body s
  | .markReject body => Sys2Proof.Machine.execMarkReject body s
  | .zoneRun body => Sys2Proof.Machine.execZoneRun body s
  | .zoneStop body => Sys2Proof.Machine.execZoneStop body s
  | .zoneHalt body => Sys2Proof.Machine.execZoneHalt body s
  | .purge body => Sys2Proof.Machine.execPurge body s
  | .clearFaults body => Sys2Proof.Machine.execClearFaults body s
  | .rearmOutputs body => Sys2Proof.Machine.execRearmOutputs body s
  | .trackingReset body => Sys2Proof.Machine.execTrackingReset body s
  | .restart body => Sys2Proof.Machine.execRestart body s
  | .readerCharacter p c framingError => Sys2Proof.Machine.execReaderCharacter p c framingError s
  | .readerGapTimeout p => Sys2Proof.Machine.execReaderGapTimeout p s
  | .gaugeReading v => Sys2Proof.Machine.execGaugeReading v s
  | .encoderPhaseChange z x y => Sys2Proof.Machine.execEncoderPhaseChange z x y s
  | .backTravel z => Sys2Proof.Machine.execBackTravel z s
  | .samplePoint => Sys2Proof.Machine.execSamplePoint s
  | .spanOverrun => Sys2Proof.Machine.execSpanOverrun s
  | .readWindowClose => Sys2Proof.Machine.execReadWindowClose s
  | .watchWindowOpen w => Sys2Proof.Machine.execWatchWindowOpen w s
  | .headMissing w => Sys2Proof.Machine.execHeadMissing w s
  | .gaugeLeadingEdge => Sys2Proof.Machine.execGaugeLeadingEdge s
  | .gaugeTrailingEdge => Sys2Proof.Machine.execGaugeTrailingEdge s
  | .eyeTrailingEdge e => Sys2Proof.Machine.execEyeTrailingEdge e s
  | .watchPointArrival w => Sys2Proof.Machine.execWatchPointArrival w s
  | .releaseEyeEdge => Sys2Proof.Machine.execReleaseEyeEdge s
  | .rejectEyeEdge => Sys2Proof.Machine.execRejectEyeEdge s
  | .casingExitEyeEdge => Sys2Proof.Machine.execCasingExitEyeEdge s
  | .unloadEyeEdge => Sys2Proof.Machine.execUnloadEyeEdge s
  | .jacketExitEyeEdge => Sys2Proof.Machine.execJacketExitEyeEdge s
  | .caseFed => Sys2Proof.Machine.execCaseFed s
  | .caseEjected => Sys2Proof.Machine.execCaseEjected s
  | .casingDone => Sys2Proof.Machine.execCasingDone s
  | .casingFault => Sys2Proof.Machine.execCasingFault s
  | .indexDone => Sys2Proof.Machine.execIndexDone s
  | .jacketFed => Sys2Proof.Machine.execJacketFed s
  | .jacketEjected => Sys2Proof.Machine.execJacketEjected s
  | .jacketDone => Sys2Proof.Machine.execJacketDone s
  | .jacketFault => Sys2Proof.Machine.execJacketFault s
  | .guardOpens => Sys2Proof.Machine.execGuardOpens s
  | .guardCloses => Sys2Proof.Machine.execGuardCloses s
  | .drainEnd z => Sys2Proof.Machine.execDrainEnd z s
  | .stagingHeadDecision => Sys2Proof.Machine.execStagingHeadDecision s
  | .jacketStopDecision => Sys2Proof.Machine.execJacketStopDecision s
  | .casingCycleBegin => Sys2Proof.Machine.execCasingCycleBegin s
  | .casingReleaseCommand => Sys2Proof.Machine.execCasingReleaseCommand s
  | .jacketReleaseCommand => Sys2Proof.Machine.execJacketReleaseCommand s
  | .indexCommand => Sys2Proof.Machine.execIndexCommand s
  | .stagingReleaseTimeout => Sys2Proof.Machine.execStagingReleaseTimeout s
  | .casingReleaseTimeout => Sys2Proof.Machine.execCasingReleaseTimeout s
  | .caseEjectTimeout => Sys2Proof.Machine.execCaseEjectTimeout s
  | .casingTimeout => Sys2Proof.Machine.execCasingTimeout s
  | .earlyHoldExpiry => Sys2Proof.Machine.execEarlyHoldExpiry s
  | .caseWaitExpiry => Sys2Proof.Machine.execCaseWaitExpiry s
  | .indexTimeout => Sys2Proof.Machine.execIndexTimeout s
  | .unloadGraceExpiry => Sys2Proof.Machine.execUnloadGraceExpiry s
  | .jacketEjectTimeout => Sys2Proof.Machine.execJacketEjectTimeout s
  | .jacketCycleTimeout => Sys2Proof.Machine.execJacketCycleTimeout s
  | .jacketReleaseTimeout => Sys2Proof.Machine.execJacketReleaseTimeout s
  | .jacketWaitExpiry => Sys2Proof.Machine.execJacketWaitExpiry s
  | .speedPeriod => Sys2Proof.Machine.execSpeedPeriod s

end Sys2Proof.Machine
end

