-- ==== Sys2Proof/Safety.lean ====
section
/-! DEFINITION. What a safe state is, in the terms the statements use: the invariants that every step
keeps. -/

namespace Sys2Proof.Machine

/-- The guard, the arming and the zones agree: the guard state is what point 27 reads (R156), the outputs
are armed only while the guard is CLOSED (R156, R157), and a zone is RUNNING or DRAINING only while they
are armed (R149, R156). -/
structure State.Guarded (s : State) : Prop where
  guard_reads : s.io.guardClosed = s.reads 27
  armed_closed : s.io.armed = true → s.io.guardClosed = true
  active_armed : ∀ z, s.active z = true → s.io.armed = true

/-- No collection holds more than its capacity (R41, R93, R133), and the ring is a ring of 24 pockets
with a rotation count of 0 to 23 (R117). -/
structure State.WithinCapacity (s : State) : Prop where
  transit : s.table.transit.length ≤ 8
  staging : s.stg.queue.length ≤ 4
  pressApproach : s.table.pressApproach.length ≤ 4
  pressQueue : s.press.queue.length ≤ 3
  pockets : s.press.pockets.length = 24
  rotation : s.press.rotation < 24
  jacketApproach : s.table.jacketApproach.length ≤ 6
  delivery : s.table.delivery.length ≤ 6
  cases : s.stg.cases.length ≤ 6
  jackets : s.dlv.jackets.length ≤ 6

/-- A reserved entry of the case queue is always its head (R93). -/
def State.ReservedIsHead (s : State) : Prop := ∀ e ∈ s.stg.cases.tail, e.reserved = false

/-- The slots of the Book Table are accounted for: each lies in 1 to 96 and holds one record, and the
outcome list names, once each, the slots whose record is retired (R34, R47). -/
structure State.SlotsAccounted (s : State) : Prop where
  range : ∀ b ∈ s.table.books, 1 ≤ b.slot ∧ b.slot ≤ 96
  nodup : (s.table.books.map (·.slot)).Nodup
  outcomes_nodup : s.table.outcomes.Nodup
  outcomes : ∀ r, r ∈ s.table.outcomes ↔ ∃ b ∈ s.table.books, b.slot = r ∧ b.life = .retired

/-- The configuration in force passes the range tests and the constraints of R166, and the index period
lies within P_min and P_max (R119). -/
structure State.Configured (s : State) : Prop where
  ranges : cfgInRange (cfgValues s.cfg) = true
  constraints : cfgConstraints s.cfg = true
  period : s.cfg.pMin ≤ s.press.period ∧ s.press.period ≤ s.cfg.pMax

/-- The Order Table: each entry slot lies in 1 to 24 and holds one entry, and no two entries hold the
same order number (R13). -/
structure State.OrdersDistinct (s : State) : Prop where
  range : ∀ o ∈ s.orders, 1 ≤ o.slot ∧ o.slot ≤ 24
  slots : (s.orders.map (·.slot)).Nodup
  numbers : (s.orders.map (·.tmpl.order)).Nodup

/-! ### What the units decide for themselves -/

/-- A record without the three fields that a decision may set. -/
def Book.fixed (b : Book) : Book :=
  { b with reason := none, marriedJacket := none, jacketResult := none }

/-- A record as a decision may leave it: it may have been given a reject-pending reason, if it carried
none (R97, R98), a married jacket (R140) or a jacket result (R137). -/
structure Book.Decided (b c : Book) : Prop where
  fixed : c.fixed = b.fixed
  reason : ∀ why, b.reason = some why → c.reason = some why

/-- A zone that a decision has left as it was, or whose drain it has ended (R150). -/
def ZoneCtl.Drains (k m : ZoneCtl) : Prop :=
  m = k ∨ (k.state = .draining ∧ m = { k with state := .stopped })

/-- What stands unchanged while the units decide: the staging head decision, the casing cycle and
release, the jacket stop decision and release, the index command, and the tests of back-pressure and of
a drain's end (R74, R96, R108, R111, R121, R137, R141, R150). They command operations, which is the
state of the staging side, of the casing side and the jacket stop about their records, and of the index;
they shoot the cases and jackets they have matched; and what they do to records and zones is that of
`Book.Decided` and `ZoneCtl.Drains`. All else is as it was. -/
structure Decides (s t : State) : Prop where
  pending : t.pending = s.pending
  clock : t.clock = s.clock
  cause : t.cause = s.cause
  cfg : t.cfg = s.cfg
  link : t.link = s.link
  readers : t.readers = s.readers
  admitSet : t.admitSet = s.admitSet
  orders : t.orders = s.orders
  gauge : t.gauge = s.gauge
  io : t.io = s.io
  books : List.Forall₂ Book.Decided s.table.books t.table.books
  table : { t.table with books := s.table.books } = s.table
  belts : ∀ z, { t.belt z with backPressure := (s.belt z).backPressure } = s.belt z
  opened : t.trk.opened = s.trk.opened
  eyes : t.trk.eyes = s.trk.eyes
  periodStart : t.trk.periodStart = s.trk.periodStart
  queue : t.stg.queue = s.stg.queue
  overdue : t.stg.overdue = s.stg.overdue
  casing : t.stg.casing.record? = s.stg.casing.record?
  press : { t.press with index := s.press.index, lastCommand := s.press.lastCommand } = s.press
  stop : t.dlv.stop.record? = s.dlv.stop.record?
  jacketOverdue : t.dlv.overdue = s.dlv.overdue
  gate : t.dlv.gate = s.dlv.gate
  zones : ∀ z, (s.zones.get z).Drains (t.zones.get z)

/-! ### Terms the statements use -/

/-- Runs commands one after another, up to the first that does not answer a next state. -/
def runAll : List Instr → State → Host.Outcome State Fault Refusal
  | [], s => .next s
  | c :: cs, s =>
    match exec c s with
    | .next t => runAll cs t
    | .fault f => .fault f
    | .refused r => .refused r

/-- Every timer that runs. -/
def State.timers (s : State) : List Timer := timedEffects.filterMap (fun p => p.1 s)

/-- No timer has run for its time and no index is due. -/
structure State.Quiet (s : State) : Prop where
  timers : ∀ t ∈ s.timers, t.due s.clock = false
  index : (s.indexReady && s.indexDue) = false

/-- The requests whose body has one length, each with that length (R162 and the rule of each). -/
def bodyLengths : List (Byte × Nat) :=
  [(0x01#8, 0), (0x02#8, 0), (0x03#8, 78), (0x04#8, 4), (0x05#8, 1), (0x10#8, 24), (0x11#8, 16),
   (0x12#8, 4), (0x13#8, 4), (0x14#8, 4), (0x15#8, 5), (0x16#8, 7), (0x19#8, 0), (0x20#8, 1),
   (0x22#8, 0), (0x23#8, 5), (0x24#8, 5), (0x30#8, 1), (0x31#8, 1), (0x32#8, 1), (0x33#8, 1),
   (0x35#8, 0), (0x36#8, 0), (0x3F#8, 0)]

/-- A template and copies ordered that lie in the ranges of 2.2. -/
structure Template.InRange (t : Template) (copies : Nat) : Prop where
  order : 1 ≤ t.order ∧ t.order ≤ 999999
  copies : 1 ≤ copies ∧ copies ≤ (match t.mode with | .copyExact => 256 | .title => 9999)
  trim : 10000 ≤ t.trim ∧ t.trim ≤ 45000
  lengthTol : 20 ≤ t.lengthTol ∧ t.lengthTol ≤ 500
  board : 100 ≤ t.board ∧ t.board ≤ 400
  rounding : t.rounding ≤ 150
  spine : 600 ≤ t.spine ∧ t.spine ≤ 11000
  spineTol : t.spineTol ≤ 200
  dwell : 2000 ≤ t.dwell ∧ t.dwell ≤ 600000

/-- The seven fields that AMEND ORDER carries after the order number, and its body (R19). -/
structure Amendment where
  spineTol : Nat
  lengthTol : Nat
  looseAccept : Bool
  dwell : Nat
  jacket : JacketMode
  proofFirst : Bool
  copies : Nat

/-- The body of an AMEND ORDER (R19). -/
def amendBytes (n : Nat) (a : Amendment) : List Byte :=
  beBytes 4 n ++ beBytes 1 a.spineTol ++ beBytes 2 a.lengthTol ++ beBytes 1 (flagCode a.looseAccept) ++
    beBytes 4 a.dwell ++ beBytes 1 (jacketModeCode a.jacket) ++ beBytes 1 (flagCode a.proofFirst) ++
    beBytes 2 a.copies

/-- The line of an input point has gone to the level its polarity calls active (R158). -/
def State.blocked (s : State) (n : Nat) : State := s.setLevel n (activeLevel (s.point n).polarity)

/-- The line of an input point has gone to the level its polarity calls inactive (R158). -/
def State.cleared (s : State) (n : Nat) : State := s.setLevel n (!activeLevel (s.point n).polarity)

end Sys2Proof.Machine
end

