-- ==== Sys2Proof/Certificates/Slice0/Obligations.lean ====
section
/-! DEFINITION. The statements about the model, each named for what it states. Where a statement gives the
state after a command as `Decides u t`, `u` is the command's own effect in full and `t` is `u` after the
units have decided what they were due to decide. `s.blocked n` and `s.cleared n` are `s` with the line of
point `n` gone active or inactive. -/

open Sys2Proof Sys2Proof.Machine

/-! ### The queue of commands, time, power-on -/

/-- A step runs the command at the front of the queue with the queue's rest. -/
def Obligations.StepRunsFrontCommand : Prop :=
  ∀ (c : Instr) (rest : List Instr) (s : State),
    step { s with pending := c :: rest } = exec c { s with pending := rest }

/-- The model's choices on time. With no command waiting, a step is 1 ms of line clock (log entry 2). When
nothing is then due the clock alone changes; a timer that alone is due expires, with the effect of its
command, where that leaves no timer due; and an index that is due, before or after the expiry, is
commanded. An expiry given as a command comes about when its time has run: a line clock that stands before
it is brought to it, and one that has passed it stays (log entry 10); a timer that does not run expires
without effect, whichever command names it. -/
def Obligations.TimePasses : Prop :=
  let expiries (s : State) : List (Instr × Option Timer) :=
    [(.linkGapTimeout, s.linkGapTimer), (.readerGapTimeout .blockPort, s.readerGapTimer .blockPort),
      (.readerGapTimeout .casePort, s.readerGapTimer .casePort),
      (.readerGapTimeout .jacketPort, s.readerGapTimer .jacketPort), (.speedPeriod, s.speedTimer),
      (.stagingReleaseTimeout, s.stagingReleaseTimer), (.casingReleaseTimeout, s.casingReleaseTimer),
      (.caseEjectTimeout, s.caseEjectTimer), (.casingTimeout, s.casingTimer),
      (.earlyHoldExpiry, s.earlyHoldTimer), (.caseWaitExpiry, s.caseWaitTimer),
      (.indexTimeout, s.indexTimeoutTimer), (.unloadGraceExpiry, s.unloadGraceTimer),
      (.jacketEjectTimeout, s.jacketEjectTimer), (.jacketCycleTimeout, s.jacketCycleTimer),
      (.jacketReleaseTimeout, s.jacketReleaseTimer), (.jacketWaitExpiry, s.jacketWaitTimer)]
  (∀ s : State, s.pending = [] →
     let now : State := { s with clock := s.clock + 1#32 }
     (∃ t, step s = .next t ∧ t.pending = [] ∧ t.clock = s.clock + 1#32 ∧ t.cause = s.cause ∧
       t.cfg = s.cfg ∧ t.admitSet = s.admitSet ∧ t.io = s.io) ∧
     (now.Quiet → step s = .next now) ∧
     ((∀ t ∈ now.timers, t.due now.clock = false) → now.indexReady = true → now.indexDue = true →
       step s = exec .indexCommand now ∧ ∃ op : IndexOp, step s = .next { now with press := { s.press with
         index := some op, lastCommand := some now.clock } }) ∧
     ∀ p ∈ expiries now, ∀ timer : Timer, p.2 = some timer → timer.due now.clock = true →
       (∀ q ∈ expiries now, q.1 ≠ p.1 → ∀ other, q.2 = some other → other.due now.clock = false) →
       ∀ t : State, exec p.1 now = .next t → (∀ u ∈ t.timers, u.due t.clock = false) →
         step s = if t.indexReady && t.indexDue then exec .indexCommand t else .next t) ∧
  (∀ s : State,
     (∀ t : Timer, t.due s.clock = true → s.reach t = s) ∧
     (∀ t : Timer, t.due s.clock = false → t.limit < 4294967296 →
       s.reach t = { s with clock := t.since + BitVec.ofNat 32 t.limit } ∧
       t.due (s.reach t).clock = true) ∧
     ∀ p ∈ expiries s, p.2 = none → exec p.1 s = .next s)

/-- Every command is taken in every state, and leaves the queue of the commands that wait. -/
def Obligations.CommandsLeaveTheQueue : Prop :=
  ∀ (c : Instr) (s : State), ∃ t : State, exec c s = .next t ∧ t.pending = s.pending

/-- What reset leaves: nothing on the line, nothing stored, every zone STOPPED without a code, the
outputs disarmed, no output driven, the configuration at its defaults; and the invariants that every
step keeps hold. The levels of the lines, and so the phases and the guard, are the model's choice (log
entry 1). -/
def Obligations.ResetState : Prop :=
  (State.reset.pending = [] ∧ State.reset.clock = 0#32 ∧ State.reset.cause = .powerOn ∧
   State.reset.cfg = Cfg.default ∧ State.reset.link.rx = .hunting ∧ State.reset.link.buffer = [] ∧
   State.reset.admitSet = 0#512 ∧ State.reset.orders = [] ∧ State.reset.table.books = [] ∧
   State.reset.table.outcomes = [] ∧ State.reset.table.nextSeq = 1 ∧
   State.reset.table.lastLead = none ∧ State.reset.freeSlots = 96 ∧
   State.reset.readers.heldCase = .empty ∧ State.reset.readers.heldJacket = .empty ∧
   State.reset.gauge.held = none ∧ State.reset.gauge.current = none ∧
   State.reset.stg.side = .idle .none ∧ State.reset.stg.casing = .empty ∧
   State.reset.press.pockets = List.replicate 24 none ∧ State.reset.press.rotation = 0 ∧
   State.reset.press.period = 2500 ∧ State.reset.press.lastCommand = none ∧
   State.reset.dlv.stop = .empty ∧ State.reset.dlv.gate = .good ∧
   (∀ z, State.reset.zones.get z = ⟨.stopped, none, false⟩) ∧
   (∀ z, (State.reset.belt z).count = 0#16 ∧ (State.reset.belt z).mark = 0#16 ∧
     (State.reset.belt z).direction = .forward ∧ (State.reset.belt z).speed = 0 ∧
     (State.reset.belt z).backPressure = false) ∧
   State.reset.io.armed = false ∧ State.reset.attention = false ∧
   ∀ n ∈ List.range 49, State.reset.driven n = false) ∧
  (State.reset.Guarded ∧ State.reset.WithinCapacity ∧ State.reset.ReservedIsHead ∧
     State.reset.SlotsAccounted ∧ State.reset.Configured ∧ State.reset.OrdersDistinct)

/-- POWER_ON sets every block as its chapter gives; the lines of the points keep their levels, and the
phases and the guard are taken as the points then read. That the lines and the waiting commands stand is
the model's choice (log entry 1). -/
def Obligations.PowerOnCommand : Prop :=
  ∀ s : State, ∃ t : State, exec .powerOn s = .next t ∧ t.pending = s.pending ∧ t.clock = 0#32 ∧
    t.cause = .powerOn ∧ t.cfg = Cfg.default ∧
    t.link = { State.reset.link with draws := s.link.draws } ∧ t.readers = State.reset.readers ∧
    t.admitSet = 0#512 ∧ t.orders = [] ∧ t.table = State.reset.table ∧ t.gauge = State.reset.gauge ∧
    t.stg = State.reset.stg ∧ t.press = State.reset.press ∧ t.dlv = State.reset.dlv ∧
    t.zones = State.reset.zones ∧ t.io.armed = false ∧ t.io.guardClosed = t.reads 27 ∧
    (∀ n, 1 ≤ n → n ≤ 48 → t.point n = Point.atPowerOn n (s.point n).high) ∧
    (∀ z, t.belt z = BeltState.initial (t.phaseReading z)) ∧
    t.trk.opened = State.reset.trk.opened ∧ t.trk.eyes = State.reset.trk.eyes ∧
    t.trk.periodStart = 0#32

/-- R54, at power-on and at the end of the response to RESTART: every slot free, the outcome list empty,
the next sequence 1, the last-lead value absent, the infeed permit off; and the Order Table, emptied by
the same event, is told of no retirement. -/
def Obligations.PowerOnEmptiesTheBookTable : Prop :=
  ∀ (s t : State),
    (exec .powerOn s = .next t ∨
      (s.link.rx = .answering ∧ s.link.restartDue = true ∧ exec .responseSent s = .next t)) →
    (∀ r, t.book? r = none) ∧ t.freeSlots = 96 ∧ t.table.outcomes = [] ∧ t.table.nextSeq = 1 ∧
      t.table.lastLead = none ∧ t.infeedPermit = false ∧ t.orders = []

/-- RESTART is answered OK, and when the last byte of its response has been sent the effects are those of
POWER_ON, with the restart cause REQUESTED; any other response that has been sent leaves HUNTING. -/
def Obligations.RestartFollowsItsResponse : Prop :=
  ∀ s : State,
    (s.link.rx ≠ .answering → exec (.restart []) s = .next { s with link := { s.link with
      rx := .answering
      response := responseFrame 0x3F#8 .ok []
      restartDue := true
      draws := s.link.draws + 1 } }) ∧
    (s.link.rx = .answering → s.link.restartDue = true →
      ∃ p : State, exec .powerOn s = .next p ∧ exec .responseSent s = .next { p with cause := .requested }) ∧
    (s.link.rx = .answering → s.link.restartDue = false →
      exec .responseSent s = .next { s with link := { s.link with rx := .hunting, response := [] } }) ∧
    (s.link.rx ≠ .answering → exec .responseSent s = .next s)

/-! ### The supervisor link -/

/-- The receive table of R163, row by row, and the gap timer of 20 ms that discards a frame. That the
timer runs from the start byte is the model's choice (log entry 15), as is a clock brought to the expiry
(log entry 10). -/
def Obligations.LinkReceiveTable : Prop :=
  ∀ (b : Byte) (s : State),
    (s.link.rx = .hunting → exec (.linkByteReceived b) s = .next (
      if b = 0xA5#8 then
        { s with link := { s.link with rx := .length, buffer := [], last := s.clock } }
      else s)) ∧
    (s.link.rx = .length → exec (.linkByteReceived b) s = .next { s with link := { s.link with
      rx := if 1 ≤ b.toNat ∧ b.toNat ≤ 250 then .body b.toNat else .hunting
      last := s.clock } }) ∧
    (∀ l, s.link.rx = .body l → exec (.linkByteReceived b) s = .next { s with link := { s.link with
      rx := if s.link.buffer.length + 1 = l then .check l else .body l
      buffer := s.link.buffer ++ [b]
      last := s.clock } }) ∧
    (∀ l code body, s.link.rx = .check l → s.link.buffer = code :: body →
      BitVec.ofNat 8 l + byteSum s.link.buffer + b = 0#8 →
      exec (.linkByteReceived b) s =
        exec (requestOf code body) { s with link := { s.link with rx := .hunting, last := s.clock } }) ∧
    (∀ l, s.link.rx = .check l → BitVec.ofNat 8 l + byteSum s.link.buffer + b ≠ 0#8 →
      exec (.linkByteReceived b) s =
        .next { s with link := { s.link with rx := .hunting, buffer := [] } }) ∧
    (s.link.rx = .answering → exec (.linkByteReceived b) s = .next s) ∧
    ((s.link.rx = .length ∨ ∃ l, s.link.rx = .body l ∨ s.link.rx = .check l) →
      exec .linkGapTimeout s = .next { s with
        clock := (s.reach ⟨s.link.last, 20⟩).clock
        link := { s.link with rx := .hunting, buffer := [] } })

/-- The bytes of a request frame, sent one after another to a link that is HUNTING, come to the request
that its code names, with its body; with any other check byte they come to nothing. -/
def Obligations.FramedRequestIsTaken : Prop :=
  ∀ (code : Byte) (body : List Byte) (s : State), body.length ≤ 249 → s.link.rx = .hunting →
    runAll ((requestFrame code body).map .linkByteReceived) s =
      exec (requestOf code body)
        { s with link := { s.link with rx := .hunting, buffer := code :: body, last := s.clock } } ∧
    ∀ c : Byte, c ≠ checkByte ((requestFrame code body).tail.dropLast) →
      runAll (((requestFrame code body).dropLast ++ [c]).map .linkByteReceived) s =
        .next { s with link := { s.link with rx := .hunting, buffer := [], last := s.clock } }

/-- Every request that is taken is answered with one frame of its own code, at the moment it is taken,
and the link is then ANSWERING; a request that comes while a response is being sent is ignored, whatever
its code and body. A request row stands for the whole frame (log entry 18). -/
def Obligations.RequestsAreAnswered : Prop :=
  (∀ (code : Byte) (body : List Byte) (s : State), s.link.rx ≠ .answering →
     ∃ (t : State) (st : Status) (b : List Byte), exec (requestOf code body) s = .next t ∧ t.link.rx = .answering ∧
       t.link.response = responseFrame code st b ∧ t.link.draws = s.link.draws + 1 ∧
       t.link.buffer = s.link.buffer ∧ t.link.last = s.link.last ∧
       (code ≠ 0x3F#8 → t.link.restartDue = s.link.restartDue) ∧
       t.clock = s.clock ∧ t.pending = s.pending ∧ t.cause = s.cause) ∧
  (∀ (code : Byte) (body : List Byte) (s : State), s.link.rx = .answering →
     exec (requestOf code body) s = .next s)

/-- The form of the frames: start byte, length, code, status and body, and a check byte that makes the
sum of all after the start byte 0 mod 256. A request whose body has not the length of its layout is
refused BAD_LENGTH, and a code that is in no table is answered UNKNOWN_REQUEST; neither changes anything
but the link. A request row stands for the whole frame (log entry 18). -/
def Obligations.FramesAndRefusals : Prop :=
  (∀ (code : Byte) (st : Status) (body : List Byte),
     responseFrame code st body =
       [0x5A#8, BitVec.ofNat 8 (body.length + 2), code + 0x80#8, statusByte st] ++ body ++
         [checkByte ((responseFrame code st body).tail.dropLast)] ∧
     byteSum (responseFrame code st body).tail = 0#8 ∧
     requestFrame code body = [0xA5#8, BitVec.ofNat 8 (body.length + 1), code] ++ body ++
       [checkByte ((requestFrame code body).tail.dropLast)] ∧
     byteSum (requestFrame code body).tail = 0#8) ∧
  (∀ (code : Byte) (body : List Byte) (s : State), s.link.rx ≠ .answering →
     (∀ n, (code, n) ∈ bodyLengths → body.length ≠ n →
       exec (requestOf code body) s = .next { s with link := { s.link with
         rx := .answering
         response := responseFrame code .badLength []
         draws := s.link.draws + 1 } }) ∧
     (code ∉ requestCodes →
       exec (.unknownRequest code body) s = .next { s with link := { s.link with
         rx := .answering
         response := [0x5A#8, 2#8, code + 0x80#8, 1#8, checkByte [2#8, code + 0x80#8, 1#8]]
         draws := s.link.draws + 1 } }))

/-! ### Requests that only read -/

/-- STATUS, READ CONFIG and READ POINTS answer OK and change nothing but the link; what STATUS counts as
free, live and retired slots adds up to 96. The layout of flags and points is the model's choice (log
entries 7, 9, 13), as is the level of a line that no row moves (log entry 34). -/
def Obligations.ReadingTheLine : Prop :=
  ∀ s : State, s.link.rx ≠ .answering →
    exec (.status []) s = .next (s.respond 0x01#8 ⟨.ok, s.statusBody⟩) ∧
    (s.SlotsAccounted → s.freeSlots + s.liveCount + s.outcomeCount = 96) ∧
    exec (.readConfig []) s = .next (s.respond 0x02#8 ⟨.ok, cfgBody s.cfg⟩) ∧
    (∀ first : Nat, 1 ≤ first → first ≤ 48 →
      exec (.readPoints [BitVec.ofNat 8 first]) s = .next (s.respond 0x05#8 ⟨.ok,
        lines (((List.range 49).filter (fun n => decide (first ≤ n ∧ n < first + 16))).map
          s.pointBody) ++ s.trk.eyes.flatMap eyeBody ++ optNum 2 s.gauge.held⟩)) ∧
    (∀ first : Nat, first < 256 → first = 0 ∨ 48 < first →
      exec (.readPoints [BitVec.ofNat 8 first]) s = .next (s.respond 0x05#8 (refuse .outOfRange)))

/-- READ ORDER of one order, its listing form, and READ COPY MAP: what each answers, and that reading an
order turns its completion unreported flag off and changes nothing else. The layout of flags, lines and
counts is the model's choice (log entries 9, 13). -/
def Obligations.ReadingOrders : Prop :=
  ∀ (s : State) (n : Nat), s.link.rx ≠ .answering →
    (∀ (o : Order) (start : Byte), 1 ≤ n → n ≤ 999999 → s.order? n = some o →
      exec (.readOrder (beBytes 4 n ++ [start])) s = .next (({ s with
        orders := s.orders.map (fun p =>
          if p.tmpl.order == n then { p with unreported := false } else p) } : State).respond
        0x15#8 ⟨.ok, orderBody o⟩)) ∧
    (∀ start : Byte, 1 ≤ n → n ≤ 999999 → s.order? n = none →
      exec (.readOrder (beBytes 4 n ++ [start])) s = .next (s.respond 0x15#8 (refuse .notFound))) ∧
    (∀ start : Nat, 1 ≤ start → start ≤ 24 →
      exec (.readOrder (beBytes 4 0 ++ [BitVec.ofNat 8 start])) s = .next (s.respond 0x15#8 ⟨.ok,
        num 1 s.orders.length ++ lines (((((List.range 25).filter (fun k => decide (start ≤ k))).filterMap
          (fun k => s.orders.find? (fun o => o.slot == k))).take 12).map orderLine)⟩)) ∧
    (∀ (o : Order) (start count : Nat), n < 4294967296 → s.order? n = some o →
      o.tmpl.mode = .copyExact → 1 ≤ start → start ≤ o.copies → start < 65536 → 1 ≤ count →
      count ≤ 64 →
      exec (.readCopyMap (beBytes 4 n ++ beBytes 2 start ++ beBytes 1 count)) s =
        .next (s.respond 0x16#8 ⟨.ok, lines (((o.copyMap.drop (start - 1)).take count).mapIdx
          (fun i st => s.copyLine n (start + i) st))⟩))

/-- READ BOOK, FIND BOOK by either key, and LIST OUTCOMES: what each answers; none changes anything but
the link. The layout of a record's fields is the model's choice (log entries 4, 6, 9, 13, 32, 33). -/
def Obligations.ReadingRecords : Prop :=
  ∀ s : State, s.link.rx ≠ .answering →
    (∀ (r : Nat) (b : Book), 1 ≤ r → r ≤ 96 → s.book? r = some b →
      exec (.readBook [BitVec.ofNat 8 r]) s = .next (s.respond 0x20#8 ⟨.ok, bookBody b⟩)) ∧
    (∀ r : Nat, 1 ≤ r → r ≤ 96 → s.book? r = none →
      exec (.readBook [BitVec.ofNat 8 r]) s = .next (s.respond 0x20#8 (refuse .notFound))) ∧
    (∀ (order copy bound : Nat) (found : List Book), 1 ≤ order → order ≤ 999999 → 1 ≤ copy →
      copy ≤ 9999 → bound < 4294967296 →
      found = s.table.books.filter (fun b =>
        decide (b.order? = some order ∧ b.copy? = some copy) && aboveBound bound b.seq) →
      exec (.findBook (1#8 :: (beBytes 4 order ++ beBytes 2 copy ++ beBytes 4 bound))) s =
        .next (s.respond 0x21#8 (if found = [] then refuse .notFound
          else ⟨.ok, num 1 found.length ++ lines ((found.take 8).map findLine)⟩))) ∧
    (∀ (i : Ident) (bound : Nat) (found : List Book), 1 ≤ i.order → i.order ≤ 999999 →
      1 ≤ i.copy → i.copy ≤ 9999 → bound < 4294967296 →
      found = s.table.books.filter (fun b => decide (b.ident = some i) && aboveBound bound b.seq) →
      exec (.findBook (0#8 :: (identText i ++ beBytes 4 bound))) s =
        .next (s.respond 0x21#8 (if found = [] then refuse .notFound
          else ⟨.ok, num 1 found.length ++ lines ((found.take 8).map findLine)⟩))) ∧
    exec (.listOutcomes []) s = .next (s.respond 0x22#8 ⟨.ok, num 1 s.table.outcomes.length ++
      lines (((s.table.outcomes.take 12).filterMap s.book?).map outcomeLine)⟩)

/-! ### Configuration and points -/

/-- What READ CONFIG sends is what SET CONFIG takes: every configuration in range comes back whole. -/
def Obligations.ConfigurationRoundTrip : Prop :=
  ∀ (c : Cfg) (draw : Nat), cfgInRange (cfgValues c) = true →
    splitFields (cfgRows.map (·.1)) (fillBody draw (cfgBody c)) = some (cfgValues c) ∧
    cfgOfValues (cfgValues c) = c

/-- SET CONFIG, with its tests in their order; an accepted one puts every value in force, answers with
the values now in force, leaves P within the new bounds, and tests every watch point head again: a head
within the new window has it open, and one beyond it retires LOST, with its zone FAULTED by MISSING. -/
def Obligations.SetConfig : Prop :=
  ∀ (s : State) (c : Cfg) (vs : List Nat), s.link.rx ≠ .answering →
    vs.length = cfgRows.length → (∀ p ∈ cfgRows.zip vs, p.2 < 256 ^ p.1.1) →
    vs = cfgValues c →
    let body := (cfgRows.zip vs).flatMap (fun p => beBytes p.1.1 p.2)
    ((∃ z, s.zoneState z ≠ .stopped) →
      exec (.setConfig body) s = .next (s.respond 0x03#8 (refuse .wrongState))) ∧
    ((∀ z, s.zoneState z = .stopped) → cfgInRange vs = false ∨ cfgConstraints c = false →
      exec (.setConfig body) s = .next (s.respond 0x03#8 (refuse .outOfRange))) ∧
    ((∀ z, s.zoneState z = .stopped) → cfgInRange vs = true → cfgConstraints c = true →
      ∃ t : State, exec (.setConfig body) s = .next (t.respond 0x03#8 ⟨.ok, cfgBody c⟩) ∧ t.cfg = c ∧
        c.pMin ≤ t.press.period ∧ t.press.period ≤ c.pMax ∧ t.link = s.link ∧ t.io = s.io ∧
        t.readers = s.readers ∧ t.admitSet = s.admitSet ∧ t.clock = s.clock ∧ t.pending = s.pending ∧
        t.gauge.held = s.gauge.held ∧ t.trk.eyes = s.trk.eyes ∧
        (∀ z, (t.belt z).count = (s.belt z).count ∧ (t.belt z).mark = (s.belt z).mark) ∧
        ∀ (w : Watch) (b : Book) (p : Belt × Count), s.head? w = some b → b.position = some p →
          let off := sdiff (s.belt (watchBelt w)).count (p.2 + BitVec.ofNat 16 (watchDistance c w))
          let width : Int := c.window.get (watchBelt w)
          (-width ≤ off → off ≤ width → t.trk.opened.get w = true) ∧
          (off < -width → t.trk.opened.get w = s.trk.opened.get w) ∧
          (width < off → ∃ d, t.book? b.slot = some d ∧ d.life = .retired ∧ d.outcome = some .lost ∧
            (t.zones.get (beltZone (watchBelt w))).state = .faulted ∧
            (t.zones.get (beltZone (watchBelt w))).code = some .missing))

/-- SET POINT: refused while a zone that uses the point is RUNNING or DRAINING; otherwise the settings
are stored, a pull-up only with INPUT, and answered as stored; with an unchanged reading nothing else
changes, and setting the guard point to a reading of inactive opens a closed guard. The bytes of a
pull-up are the model's choice (log entry 9), as are the layout of the answer (log entry 13) and a level
that the settings leave as it stands (log entry 34). -/
def Obligations.SetPoint : Prop :=
  ∀ (s : State) (n : Nat) (m : PointMode) (u : Bool) (p : Polarity), s.link.rx ≠ .answering →
    1 ≤ n → n ≤ 48 → s.io.points.length = 48 →
    let body := [BitVec.ofNat 8 n, BitVec.ofNat 8 (pointModeCode m), BitVec.ofNat 8 (flagCode u),
      BitVec.ofNat 8 (polarityCode p)]
    let new : Point :=
      { mode := m, pullUp := u && decide (m = .input), polarity := p, high := (s.point n).high }
    let reply : Reply := ⟨.ok, one (pointModeCode m) ++ one (flagCode (u && decide (m = .input))) ++
      one (polarityCode p)⟩
    ((∃ z, s.active z = true ∧ n ∈ zonePoints z) →
      exec (.setPoint body) s = .next (s.respond 0x04#8 (refuse .wrongState))) ∧
    ((∀ z, s.active z = true → n ∉ zonePoints z) →
      ∃ t : State, exec (.setPoint body) s = .next (t.respond 0x04#8 reply) ∧ t.point n = new ∧
        (∀ k, 1 ≤ k → k ≠ n → t.point k = s.point k) ∧
        (new.reading = (s.point n).reading ∨ 28 ≤ n →
          t = { s with io := { s.io with points := s.io.points.set (n - 1) new } }) ∧
        (n = 27 → new.reading = false → (s.point n).reading = true → s.io.guardClosed = true →
          t.io.guardClosed = false ∧ t.io.armed = false ∧ ∀ z, t.zoneState z = .tripped))

/-- REARM OUTPUTS: refused while the guard is open, without effect when armed; otherwise the outputs arm,
every TRIPPED zone becomes STOPPED, or FAULTED if it holds a code, and no other zone moves. -/
def Obligations.RearmOutputs : Prop :=
  ∀ s : State, s.link.rx ≠ .answering →
    let moved (k : ZoneCtl) : ZoneCtl :=
      if k.state = .tripped then { k with state := if k.code = none then .stopped else .faulted }
      else k
    (s.io.guardClosed = false →
      exec (.rearmOutputs []) s = .next (s.respond 0x35#8 (refuse .guardOpen))) ∧
    (s.io.guardClosed = true → s.io.armed = true →
      exec (.rearmOutputs []) s = .next (s.respond 0x35#8 ⟨.ok, []⟩)) ∧
    (s.io.guardClosed = true → s.io.armed = false →
      ∃ t : State, exec (.rearmOutputs []) s = .next (t.respond 0x35#8 ⟨.ok, []⟩) ∧
        Decides { s with
          io := { s.io with armed := true }
          zones := ⟨moved s.zones.a, moved s.zones.b, moved s.zones.p, moved s.zones.c⟩ } t ∧
        ∀ z, t.zones.get z = moved (s.zones.get z))

/-! ### Orders and the Admit Set -/

/-- LOAD ORDER: refused EXISTS and TABLE_FULL; otherwise the entry is made in the lowest free entry
slot, OPEN, with every counter 0 and every copy NOT_SEEN, and the order's EARLY records are identified.
The bytes of a flag are the model's choice (log entry 9), as is the layout of the answer (log
entry 13). -/
def Obligations.LoadOrder : Prop :=
  ∀ (s : State) (t : Template) (copies : Nat), s.link.rx ≠ .answering → t.InRange copies →
    let body := fillBody 0 (orderTemplateBody t copies)
    (∀ o, s.order? t.order = some o →
      exec (.loadOrder body) s = .next (s.respond 0x10#8 (refuse .exists_))) ∧
    (s.order? t.order = none → (∀ n, 1 ≤ n → n ≤ 24 → ∃ o ∈ s.orders, o.slot = n) →
      exec (.loadOrder body) s = .next (s.respond 0x10#8 (refuse .tableFull))) ∧
    (∀ n, s.order? t.order = none → 1 ≤ n → n ≤ 24 → (∀ o ∈ s.orders, o.slot ≠ n) →
      (∀ k, 1 ≤ k → k < n → ∃ o ∈ s.orders, o.slot = k) →
      let entry : Order := ⟨n, t, copies, .openOrder, ⟨0, 0, 0, 0, 0, 0, 0, 0, 0⟩, false, false,
        match t.mode with | .copyExact => List.replicate copies .notSeen | .title => []⟩
      let loaded := ({ s with orders := s.orders ++ [entry] } : State).identifyAll
        (s.earlyRecords t.order)
      ∃ u : State, exec (.loadOrder body) s = .next (u.respond 0x10#8 ⟨.ok, num 1 n ++
          num 1 (s.earlyRecords t.order).length ++
          num 1 (loaded.boundAmong (s.earlyRecords t.order))⟩) ∧
        Decides loaded u)

/-- AMEND ORDER of fields in range, with copies that do not fall: the seven fields are replaced, the
copy map of a COPY_EXACT order grows by NOT_SEEN copies, a COMPLETE order whose copies rise is OPEN
again with its flag off, and no other entry changes; it is refused NOT_FOUND for an order that is not in
the table, and OUT_OF_RANGE for a field out of its range or copies that fall. HOLD ORDER, RESUME ORDER
and CLOSE ORDER: refused NOT_FOUND, WRONG_STATE and IN_USE; otherwise the order is HELD, OPEN again, or
removed with its final account in the response. The bytes of a flag are the model's choice (log entry
9), as is the layout of the account (log entry 13). -/
def Obligations.AmendHoldResumeAndCloseOrder : Prop :=
  (∀ (s : State) (n : Nat) (o : Order) (a : Amendment), s.link.rx ≠ .answering →
     n < 4294967296 → s.order? n = some o → a.spineTol ≤ 200 → 20 ≤ a.lengthTol →
     a.lengthTol ≤ 500 → 2000 ≤ a.dwell → a.dwell ≤ 600000 → o.copies ≤ a.copies →
     a.copies ≤ (match o.tmpl.mode with | .copyExact => 256 | .title => 9999) →
     ∃ u : State, exec (.amendOrder (amendBytes n a)) s = .next (u.respond 0x11#8 ⟨.ok, []⟩) ∧
       Decides { s with orders := u.orders } u ∧
       (∀ k, k ≠ n → u.order? k = s.order? k) ∧
       u.order? n = some { o with
         tmpl := { o.tmpl with
           spineTol := a.spineTol
           lengthTol := a.lengthTol
           looseAccept := a.looseAccept
           dwell := a.dwell
           jacket := a.jacket
           proofFirst := a.proofFirst }
         copies := a.copies
         copyMap := match o.tmpl.mode with
           | .copyExact => o.copyMap ++ List.replicate (a.copies - o.copies) .notSeen
           | .title => o.copyMap
         state := if o.copies < a.copies ∧ o.state = .complete then .openOrder else o.state
         unreported := if o.copies < a.copies ∧ o.state = .complete then false else o.unreported }) ∧
  (∀ (s : State) (n : Nat) (a : Amendment), s.link.rx ≠ .answering → n < 4294967296 →
     a.spineTol < 256 → a.lengthTol < 65536 → a.dwell < 4294967296 → a.copies < 65536 →
     (s.order? n = none →
       exec (.amendOrder (amendBytes n a)) s = .next (s.respond 0x11#8 (refuse .notFound))) ∧
     ∀ o, s.order? n = some o →
       (200 < a.spineTol ∨ a.lengthTol < 20 ∨ 500 < a.lengthTol ∨ a.dwell < 2000 ∨ 600000 < a.dwell ∨
         a.copies < o.copies ∨
         (match o.tmpl.mode with | .copyExact => 256 | .title => 9999) < a.copies) →
       exec (.amendOrder (amendBytes n a)) s = .next (s.respond 0x11#8 (refuse .outOfRange))) ∧
  (∀ (s : State) (n : Nat), s.link.rx ≠ .answering → n < 4294967296 →
     (s.order? n = none →
       exec (.holdOrder (beBytes 4 n)) s = .next (s.respond 0x12#8 (refuse .notFound)) ∧
       exec (.resumeOrder (beBytes 4 n)) s = .next (s.respond 0x13#8 (refuse .notFound)) ∧
       exec (.closeOrder (beBytes 4 n)) s = .next (s.respond 0x14#8 (refuse .notFound))) ∧
     ∀ o, s.order? n = some o →
       (o.state = .openOrder → ∃ u : State,
         exec (.holdOrder (beBytes 4 n)) s = .next (u.respond 0x12#8 ⟨.ok, []⟩) ∧
         Decides { s with orders := s.orders.map (fun p =>
           if p.tmpl.order == n then { p with state := .held } else p) } u) ∧
       (o.state ≠ .openOrder →
         exec (.holdOrder (beBytes 4 n)) s = .next (s.respond 0x12#8 (refuse .wrongState))) ∧
       (o.state = .held → ∃ u : State,
         exec (.resumeOrder (beBytes 4 n)) s = .next (u.respond 0x13#8 ⟨.ok, []⟩) ∧
         Decides { s with orders := s.orders.map (fun p =>
           if p.tmpl.order == n then { p with state := .openOrder } else p) } u) ∧
       (o.state ≠ .held →
         exec (.resumeOrder (beBytes 4 n)) s = .next (s.respond 0x13#8 (refuse .wrongState))) ∧
       (0 < o.counters.inProcess →
         exec (.closeOrder (beBytes 4 n)) s = .next (s.respond 0x14#8 (refuse .inUse))) ∧
       (o.counters.inProcess = 0 → ∃ u : State,
         exec (.closeOrder (beBytes 4 n)) s = .next (u.respond 0x14#8
           ⟨.ok, countersBody o.counters ++ one (orderStateCode o.state)⟩) ∧
         Decides { s with orders := s.orders.filter (fun p => p.tmpl.order != n) } u))

/-- R11: ADMIT ADD is refused BAD_LENGTH when its length does not agree with its count or holds none,
and OUT_OF_RANGE when the count is not 1 to 8 or a number is not 1 to 999999; otherwise it sets the
entries of its numbers and no other, and answers for each, in their order, a line that tells its index
and whether its entry was set before it was taken, however a line is laid out. -/
def Obligations.AdmitAdd : Prop :=
  ∃ line : Nat → Nat → Bool → Body,
    (∀ n m i j x y, i < 512 → j < 512 → line n i x = line m j y → i = j ∧ x = y) ∧
    ∀ s : State, s.link.rx ≠ .answering →
    (∀ body : List Byte, (body = [] ∨ ∃ c rest, body = c :: rest ∧ rest.length ≠ 4 * c.toNat) →
      exec (.admitAdd body) s = .next (s.respond 0x18#8 (refuse .badLength))) ∧
    ∀ ns : List Nat, ns.length ≤ 255 → (∀ n ∈ ns, n < 4294967296) →
      let index (n : Nat) := n * 40503 % 65536 / 128
      let body := BitVec.ofNat 8 ns.length :: ns.flatMap (beBytes 4)
      ((ns = [] ∨ 8 < ns.length ∨ ∃ n ∈ ns, n = 0 ∨ 999999 < n) →
        exec (.admitAdd body) s = .next (s.respond 0x18#8 (refuse .outOfRange))) ∧
      (ns ≠ [] → ns.length ≤ 8 → (∀ n ∈ ns, 1 ≤ n ∧ n ≤ 999999) →
        ∃ (a : BitVec 512) (ls : List Body),
          exec (.admitAdd body) s = .next (({ s with admitSet := a } : State).respond 0x18#8
            ⟨.ok, lines ls⟩) ∧
          ls.length = ns.length ∧
          (∀ i, i < 512 → a.getLsbD i = (s.admitSet.getLsbD i || ns.any (fun n => index n == i))) ∧
          ∀ k n, ns[k]? = some n → ls[k]? = some (line n (index n)
            (s.admitSet.getLsbD (index n) || (ns.take k).any (fun m => index m == index n))))

/-- R12: ADMIT CLEAR clears all 512 entries, answers with the number that were set, and changes nothing
else; with a body it is refused BAD_LENGTH and clears nothing. -/
def Obligations.AdmitClear : Prop :=
  ∀ (s : State) (body : List Byte), s.link.rx ≠ .answering →
    (body = [] → exec (.admitClear body) s = .next (({ s with admitSet := 0#512 } : State).respond
      0x19#8 ⟨.ok, num 2 (((List.range 512).filter (fun i => s.admitSet.getLsbD i)).length)⟩)) ∧
    (body ≠ [] → exec (.admitClear body) s = .next (s.respond 0x19#8 (refuse .badLength))) ∧
    (∀ n, ({ s with admitSet := 0#512 } : State).expected n = false)

/-- COLLECT discards a retired record and frees its slot, and MARK REJECT gives a live record REQUESTED
unless it carries a reason; each refuses in the order its rule gives. The layout of the answers is the
model's choice (log entries 13, 32, 33). -/
def Obligations.CollectAndMarkReject : Prop :=
  ∀ (s : State) (r seq : Nat), s.link.rx ≠ .answering → 1 ≤ r → r ≤ 96 → seq < 4294967296 →
    let body := BitVec.ofNat 8 r :: beBytes 4 seq
    (s.book? r = none →
      exec (.collect body) s = .next (s.respond 0x23#8 (refuse .notFound)) ∧
      exec (.markReject body) s = .next (s.respond 0x24#8 (refuse .notFound))) ∧
    ∀ b, s.book? r = some b →
      (seq ≠ 0 → seq ≠ b.seq →
        exec (.collect body) s = .next (s.respond 0x23#8 (refuse .notFound)) ∧
        exec (.markReject body) s = .next (s.respond 0x24#8 (refuse .notFound))) ∧
      (seq = 0 ∨ seq = b.seq → b.life ≠ .retired →
        exec (.collect body) s = .next (s.respond 0x23#8 (refuse .wrongState))) ∧
      (seq = 0 ∨ seq = b.seq → b.life = .retired →
        exec (.collect body) s = .next (({ s with table := { s.table with
            books := s.table.books.filter (fun c => c.slot != r)
            outcomes := s.table.outcomes.filter (· != r) } } : State).respond 0x23#8
          ⟨.ok, num 1 r ++ num 4 b.seq ++ retiredBody b⟩)) ∧
      (seq = 0 ∨ seq = b.seq → b.life = .retired ∨ b.lane ≠ none →
        exec (.markReject body) s = .next (s.respond 0x24#8 (refuse .tooLate))) ∧
      (seq = 0 ∨ seq = b.seq → b.life ≠ .retired → b.lane = none →
        ∃ (u : State) (c : Book), exec (.markReject body) s = .next (u.respond 0x24#8
            ⟨.ok, one (reasonCode (b.reason.getD .requested))⟩) ∧
          Decides s u ∧ u.book? r = some c ∧ c.reason = some (b.reason.getD .requested))

/-! ### Zones -/

/-- ZONE RUN by the zone's state, with its tests in their order; a zone that enters RUNNING has its
forward mark set to its count, and its unit's eject-overdue mark cleared. ZONE STOP: a RUNNING zone
enters DRAINING, or STOPPED at once when its drain's end condition already holds; a STOPPED or DRAINING
zone is answered OK, a FAULTED or TRIPPED one is refused. -/
def Obligations.ZoneRunAndStop : Prop :=
  (∀ (s : State) (z : Zone), s.link.rx ≠ .answering →
     let body := [BitVec.ofNat 8 (zoneCode z)]
     let waits := s.zoneState z = .stopped ∨ s.zoneState z = .draining
     (s.zoneState z = .running →
       exec (.zoneRun body) s = .next (s.respond 0x30#8 ⟨.ok, []⟩)) ∧
     (s.zoneState z = .faulted →
       exec (.zoneRun body) s = .next (s.respond 0x30#8 (refuse .wrongState))) ∧
     (s.zoneState z = .tripped →
       exec (.zoneRun body) s = .next (s.respond 0x30#8 (refuse .guardOpen))) ∧
     (waits → s.io.guardClosed = false ∨ s.io.armed = false →
       exec (.zoneRun body) s = .next (s.respond 0x30#8 (refuse .guardOpen))) ∧
     (∀ n ∈ zonePoints z, waits → s.io.guardClosed = true → s.io.armed = true →
       pointSuitable n (s.point n) = false →
       (∀ k ∈ zonePoints z, k < n → pointSuitable k (s.point k) = true) →
       exec (.zoneRun body) s = .next (s.respond 0x30#8 ⟨.pointMode, num 1 n⟩)) ∧
     (waits → s.io.guardClosed = true → s.io.armed = true →
       (∀ k ∈ zonePoints z, pointSuitable k (s.point k) = true) →
       ∃ u : State, exec (.zoneRun body) s = .next (u.respond 0x30#8 ⟨.ok, []⟩) ∧
         u.zoneState z = .running ∧
         Decides { s with
           zones := s.zones.set z { s.zones.get z with state := .running }
           trk := (match z with
             | .a => { s.trk with belts :=
                 (s.trk.belts.set .a { s.belt .a with mark := (s.belt .a).count }) }
             | .b => { s.trk with belts :=
                 (s.trk.belts.set .b { s.belt .b with mark := (s.belt .b).count }) }
             | .c => { s.trk with belts :=
                 (s.trk.belts.set .c { s.belt .c with mark := (s.belt .c).count }) }
             | .p => s.trk)
           stg := if z = .b then { s.stg with overdue := false } else s.stg
           dlv := if z = .c then { s.dlv with overdue := false } else s.dlv } u)) ∧
  (∀ (s : State) (z : Zone), s.link.rx ≠ .answering →
     let body := [BitVec.ofNat 8 (zoneCode z)]
     (s.zoneState z = .running →
       ∃ u : State, exec (.zoneStop body) s = .next (u.respond 0x31#8 ⟨.ok, []⟩) ∧
         u.zoneState z = (if s.drained z then .stopped else .draining) ∧
         Decides { s with zones := s.zones.set z { s.zones.get z with state := .draining } } u) ∧
     (s.zoneState z = .stopped ∨ s.zoneState z = .draining →
       exec (.zoneStop body) s = .next (s.respond 0x31#8 ⟨.ok, []⟩)) ∧
     (s.zoneState z = .faulted ∨ s.zoneState z = .tripped →
       exec (.zoneStop body) s = .next (s.respond 0x31#8 (refuse .wrongState))))

/-- R151: ZONE HALT of a RUNNING or DRAINING zone makes it STOPPED at once; its units' waiting timers
stop, and every record, every operation in flight and all else stands. A STOPPED zone is answered OK and
nothing changes; a FAULTED or TRIPPED one is refused WRONG_STATE. -/
def Obligations.ZoneHalt : Prop :=
  ∀ (s : State) (z : Zone), s.link.rx ≠ .answering →
    let body := [BitVec.ofNat 8 (zoneCode z)]
    (s.zoneState z = .running ∨ s.zoneState z = .draining →
      exec (.zoneHalt body) s = .next (({ s with
        zones := s.zones.set z { s.zones.get z with state := .stopped }
        stg := if z = .b then { s.stg with side := (match s.stg.side with
            | .idle _ => .idle .none
            | .forwardInFlight t => .forwardInFlight t
            | .rejectInFlight t => .rejectInFlight t
            | .ejectInFlight t => .ejectInFlight t) } else s.stg
        dlv := if z = .c then { s.dlv with stop := (match s.dlv.stop with
            | .waiting r _ => .waiting r none
            | .empty => .empty
            | .ejectInFlight r t => .ejectInFlight r t
            | .inCycle r t => .inCycle r t
            | .done r => .done r
            | .releasing r t => .releasing r t) } else s.dlv } : State).respond 0x32#8 ⟨.ok, []⟩)) ∧
    (s.zoneState z = .stopped →
      exec (.zoneHalt body) s = .next (s.respond 0x32#8 ⟨.ok, []⟩)) ∧
    (s.zoneState z = .faulted ∨ s.zoneState z = .tripped →
      exec (.zoneHalt body) s = .next (s.respond 0x32#8 (refuse .wrongState)))

/-- PURGE: refused unless the zone is STOPPED or FAULTED with no operation in flight; otherwise every
record of the zone retires REMOVED in sequence order, the zone's queues, held scan and marks are
emptied, and the zone keeps its state, its code and its flag. The layout of the answer is the model's
choice (log entry 13). -/
def Obligations.Purge : Prop :=
  ∀ (s : State) (z : Zone), s.link.rx ≠ .answering →
    let body := [BitVec.ofNat 8 (zoneCode z)]
    (s.zoneState z ≠ .stopped ∧ s.zoneState z ≠ .faulted ∨ s.inFlight z = true →
      exec (.purge body) s = .next (s.respond 0x33#8 (refuse .wrongState))) ∧
    (s.SlotsAccounted → s.zoneState z = .stopped ∨ s.zoneState z = .faulted → s.inFlight z = false →
      ∃ u : State, exec (.purge body) s = .next (u.respond 0x33#8 ⟨.ok,
          num 1 (s.table.books.filter (fun b => b.inZone z)).length ++ optNum 1 (match z with
            | .b => some s.stg.cases.length
            | .c => some s.dlv.jackets.length
            | .a | .p => none)⟩) ∧
        (∀ b ∈ u.table.books, b.inZone z = false) ∧
        u.table.outcomes = s.table.outcomes ++
          (s.table.books.filter (fun b => b.inZone z)).map (·.slot) ∧
        (∀ r b, s.book? r = some b → b.inZone z = true → ∃ c, u.book? r = some c ∧
          c.outcome = some .removed ∧ c.lifeAtRetirement = some b.life ∧
          c.retiredAt = some s.clock) ∧
        (∀ r b, s.book? r = some b → b.inZone z = false → ∃ c, u.book? r = some c ∧ b.Decided c) ∧
        u.zones.get z = s.zones.get z ∧
        (z = .b → u.stg.cases = [] ∧ u.stg.overdue = false ∧ u.stg.casing = .empty ∧
          u.readers = { s.readers with heldCase := .empty }) ∧
        (z = .c → u.dlv.jackets = [] ∧ u.dlv.overdue = false ∧ u.dlv.stop = .empty ∧
          u.dlv.gate = .good ∧ u.readers = { s.readers with heldJacket := .empty }) ∧
        (z = .a ∨ z = .p → u.readers = s.readers) ∧
        u.table.nextSeq = s.table.nextSeq ∧ u.table.lastLead = s.table.lastLead ∧
        u.press.rotation = s.press.rotation ∧ u.press.period = s.press.period ∧ u.io = s.io ∧
        u.cfg = s.cfg ∧ u.admitSet = s.admitSet ∧ u.clock = s.clock)

/-- TRACKING RESET: refused unless every zone is STOPPED or FAULTED and nothing is in flight; otherwise
every live record retires REMOVED in sequence order, with the state it was in and the time, and the
retired records stand; counters, marks and collections are emptied, and each FAULTED zone is STOPPED
without a code. -/
def Obligations.TrackingReset : Prop :=
  ∀ s : State, s.link.rx ≠ .answering →
    ((∃ z, s.zoneState z ≠ .stopped ∧ s.zoneState z ≠ .faulted ∨ s.inFlight z = true) →
      exec (.trackingReset []) s = .next (s.respond 0x36#8 (refuse .wrongState))) ∧
    (s.SlotsAccounted →
      (∀ z, (s.zoneState z = .stopped ∨ s.zoneState z = .faulted) ∧ s.inFlight z = false) →
      ∃ u : State, exec (.trackingReset []) s = .next (u.respond 0x36#8 ⟨.ok,
          num 1 (s.table.books.filter (fun b => decide (b.life ≠ .retired))).length⟩) ∧
        (∀ b ∈ u.table.books, b.life = .retired) ∧
        u.table.books = s.table.books.map (fun b => if b.life = .retired then b else { b with
          position := none
          press := none
          outcome := some .removed
          retiredAt := some s.clock
          lifeAtRetirement := some b.life
          life := .retired }) ∧
        u.table.outcomes = s.table.outcomes ++
          (s.table.books.filter (fun b => decide (b.life ≠ .retired))).map (·.slot) ∧
        u.table.nextSeq = s.table.nextSeq ∧ u.table.lastLead = none ∧
        u.table.transit = [] ∧ u.table.pressApproach = [] ∧ u.table.jacketApproach = [] ∧
        u.table.delivery = [] ∧
        (∀ z, u.belt z = { s.belt z with
          count := 0#16
          mark := 0#16
          direction := .forward
          backPressure := false
          backReported := false
          counted := false }) ∧
        u.trk.eyes = List.replicate 11 none ∧ u.trk.opened = State.reset.trk.opened ∧
        u.gauge = { s.gauge with current := none } ∧
        u.stg = State.reset.stg ∧ u.dlv = State.reset.dlv ∧
        u.press = { State.reset.press with period := s.cfg.pMin } ∧
        u.readers = { s.readers with heldCase := .empty, heldJacket := .empty } ∧
        (∀ z, u.zones.get z = if s.zoneState z = .faulted then ⟨.stopped, none, false⟩
          else s.zones.get z) ∧
        u.admitSet = s.admitSet ∧ u.cfg = s.cfg ∧ u.io = s.io ∧ u.clock = s.clock)

/-- The table of R152: what a fault report does, by the zone's state at the moment it is taken. CLEAR
FAULTS answers for each zone of its set in the order A, B, P, C by the table of R153, and changes the
cleared zones alone. The bytes of the answers, and a set that names a zone twice, are the model's choice
(log entries 13, 14). -/
def Obligations.FaultsAreTakenAndCleared : Prop :=
  (∀ (s : State) (z : Zone) (c : FaultCode),
     let k := s.zones.get z
     (s.fault z c).zones.get z = (match k.state, k.code with
       | .stopped, _ | .running, _ | .draining, _ => { k with state := .faulted, code := some c }
       | .faulted, _ => { k with further := true }
       | .tripped, none => { k with code := some c }
       | .tripped, some _ => { k with further := true }) ∧
     (∀ y, y ≠ z → (s.fault z c).zones.get y = s.zones.get y) ∧
     (s.fault z c).table = s.table ∧ (s.fault z c).orders = s.orders ∧ (s.fault z c).io = s.io ∧
     (s.fault z c).trk = s.trk ∧ (s.fault z c).press = s.press) ∧
  (∀ (s : State) (zs : List Zone), s.link.rx ≠ .answering → zs ≠ [] → zs.length ≤ 4 →
     let persists (z : Zone) : Bool := decide (s.zoneState z = .faulted ∧ z = .a ∧
       s.zones.a.code = some .eyeBlocked ∧ s.reads 7 = true)
     let cleared (z : Zone) : Bool := !persists z && decide (s.zoneState z = .faulted ∨
       (s.zoneState z = .tripped ∧ (s.zones.get z).code ≠ none))
     let set := [Zone.a, .b, .p, .c].filter (fun z => decide (z ∈ zs))
     ∃ u : State, exec (.clearFaults (BitVec.ofNat 8 zs.length ::
         zs.map (fun z => BitVec.ofNat 8 (zoneCode z)))) s =
         .next (({ s with zones := u.zones } : State).respond 0x34#8
           ⟨if set.any persists then .persists else .ok,
             lines (set.map (fun z => one (zoneCode z) ++
               one (if cleared z then 0 else if persists z then 1 else 2)))⟩) ∧
       ∀ z, u.zones.get z = if z ∈ zs ∧ cleared z = true then
           ⟨if s.zoneState z = .faulted then .stopped else .tripped, none, false⟩
         else s.zones.get z)

/-! ### Readers and the gauge -/

/-- The table of R3: how a character is taken by its port, whatever the other ports do.
READER_GAP_TIMEOUT discards a text in reception as BAD_FORM and does nothing to an empty one;
GAUGE_READING replaces the held reading, a value above 10000 as 10000, and changes nothing else. The
byte stored for a framing error, the 51st millisecond and a clock brought to it are the model's (log
entries 16, 28, 10). -/
def Obligations.ReaderCharactersAndGauge : Prop :=
  (∀ (s : State) (p : Port) (c : Byte),
     let added (b : Byte) : State := s.setText p
       ⟨if (s.text p).stored.length < 20 then (s.text p).stored ++ [b] else (s.text p).stored,
         (s.text p).count + 1, s.clock⟩
     exec (.readerCharacter p c true) s = .next (added 0#8) ∧
     ((s.text p).count = 0 → c = 0x0D#8 ∨ c = 0x0A#8 →
       exec (.readerCharacter p c false) s = .next s) ∧
     (c ≠ 0x0D#8 → (s.text p).count ≠ 0 ∨ c ≠ 0x0A#8 →
       exec (.readerCharacter p c false) s = .next (added c))) ∧
  (∀ s : State,
     (∀ p, (s.text p).count = 0 → exec (.readerGapTimeout p) s = .next s) ∧
     (∀ p, (s.text p).count ≠ 0 → exec (.readerGapTimeout p) s =
       .next (((s.reach ⟨(s.text p).last, 51⟩).setText p ⟨[], 0, 0#32⟩).deliverScan p .badForm)) ∧
     (∀ v, v ≤ 10000 →
       exec (.gaugeReading v) s = .next { s with gauge := { s.gauge with held := some v } }) ∧
     (∀ v, 10000 < v →
       exec (.gaugeReading v) s = .next { s with gauge := { s.gauge with held := some 10000 } }))

/-- R4: a carriage return that ends a non-empty text empties the text in reception, whose gap timer then
does not run, and delivers the outcome of the tests of R4, the first that applies. R7: the table of the
held scans, for the case port and the jacket port alike; nothing else changes. R6: a VALID scan of the
block port is added to the open read window, a bad one sets its bad-read mark, and with no window open
either is dropped. -/
def Obligations.ScansAreJudgedAndHeld : Prop :=
  (∀ (s : State) (p : Port), (s.text p).count ≠ 0 →
     let text := (s.text p).stored
     let emptied := s.setText p ⟨[], 0, 0#32⟩
     emptied.readerGapTimer p = none ∧
     ((s.text p).count > 20 ∨ (s.text p).count ≠ 12 ∨ identForm text = none →
       exec (.readerCharacter p 0x0D#8 false) s = .next (emptied.deliverScan p .badForm)) ∧
     (∀ i, (s.text p).count = 12 → identForm text = some i → text ≠ identText i →
       exec (.readerCharacter p 0x0D#8 false) s = .next (emptied.deliverScan p .badCheck)) ∧
     (∀ i, (s.text p).count = 12 → identForm text = some i → text = identText i →
       exec (.readerCharacter p 0x0D#8 false) s = .next (emptied.deliverScan p (.valid i)))) ∧
  (∀ (s : State) (i j : Ident),
     let kase (h : HeldScan) : State := { s with readers := { s.readers with heldCase := h } }
     let jacket (h : HeldScan) : State := { s with readers := { s.readers with heldJacket := h } }
     ((kase .empty).deliverScan .casePort (.valid i) = kase (.holding i) ∧
       (kase (.holding i)).deliverScan .casePort (.valid i) = kase (.holding i) ∧
       (i ≠ j → (kase (.holding j)).deliverScan .casePort (.valid i) = kase .conflict) ∧
       (kase .conflict).deliverScan .casePort (.valid i) = kase .conflict ∧
       ∀ h, (kase h).deliverScan .casePort .badForm = kase h ∧
         (kase h).deliverScan .casePort .badCheck = kase h) ∧
     ((jacket .empty).deliverScan .jacketPort (.valid i) = jacket (.holding i) ∧
       (jacket (.holding i)).deliverScan .jacketPort (.valid i) = jacket (.holding i) ∧
       (i ≠ j → (jacket (.holding j)).deliverScan .jacketPort (.valid i) = jacket .conflict) ∧
       (jacket .conflict).deliverScan .jacketPort (.valid i) = jacket .conflict ∧
       ∀ h, (jacket h).deliverScan .jacketPort .badForm = jacket h ∧
         (jacket h).deliverScan .jacketPort .badCheck = jacket h)) ∧
  (∀ (s : State) (out : ScanOutcome),
     ((∀ g, s.gauge.current = some g → g.window = none) → s.deliverScan .blockPort out = s) ∧
     ∀ g w, s.gauge.current = some g → g.window = some w →
       s.deliverScan .blockPort out = { s with gauge := { s.gauge with
         current := some { g with window := some (match out with
           | .valid i => { w with idents := w.idents ++ [i] }
           | .badForm | .badCheck => { w with bad := true }) } } })

/-- The twelve characters of an identifier, sent to an empty text and ended by a carriage return, are
delivered as that identifier, whatever its order, copy and item. -/
def Obligations.IdentifierRoundTrip : Prop :=
  ∀ (s : State) (p : Port) (i : Ident), s.text p = ⟨[], 0, 0#32⟩ → 1 ≤ i.order →
    i.order ≤ 999999 → 1 ≤ i.copy → i.copy ≤ 9999 →
    runAll ((identText i ++ [0x0D#8]).map (fun c => .readerCharacter p c false)) s =
      .next (s.deliverScan p (.valid i)) ∧
    ∀ c : Byte, some c ≠ (identText i).getLast? → 0x30 ≤ c.toNat → c.toNat ≤ 0x39 →
      runAll (((identText i).dropLast ++ [c, 0x0D#8]).map (fun c => .readerCharacter p c false)) s =
        .next (s.deliverScan p .badCheck)

/-! ### Belts, gauging and the eyes -/

/-- A change of the phase lines of a belt: a step forward in the cycle adds 1 to its counter, a step
back takes 1, a change of both phases counts nothing and is reported as ENCODER, and no change does
nothing. The same command makes the tests of its count: at an up-count of zone A samples, span and read
window, and at each watch point of the belt the window and the missing count; at a down-count back-travel
and the windows. They are the tests of the rows SAMPLE_POINT to HEAD_MISSING, each made whole; their order
on one count is the model's choice (log entry 12). BACK_TRAVEL: at a down-count that takes s(mark − count) to the limit plus 1, not yet reported,
the fault is reported for the zone; otherwise nothing but the units' decisions comes about. That a count
reports once, whichever command tests it, and only by the limit in force when it was taken, is the
model's reading (log entries 8, 30). -/
def Obligations.EncoderCounts : Prop :=
  (∀ (s : State) (z : Belt) (x y : Bool),
     let moved := (s.setLevel (phasePoints z).1 x).setLevel (phasePoints z).2 y
     let old := (s.belt z).phase
     let new := moved.phaseReading z
     (new = old → exec (.encoderPhaseChange z x y) s = .next moved) ∧
     (new = (!old.1, !old.2) →
       ∃ t : State, exec (.encoderPhaseChange z x y) s = .next t ∧
         Decides ((moved.setBelt z { s.belt z with phase := new }).fault (beltZone z) .encoder) t) ∧
     (∀ (up : Bool), new = (if up then (!old.2, old.1) else (old.2, !old.1)) →
       ∃ t : State, exec (.encoderPhaseChange z x y) s = .next t ∧
         let n := if up then (s.belt z).count + 1#16 else (s.belt z).count - 1#16
         { t.belt z with backPressure := (s.belt z).backPressure, backReported := false } =
           { s.belt z with
             count := n
             phase := new
             direction := if up then .forward else .reverse
             net := if up then (s.belt z).net + 1 else (s.belt z).net - 1
             mark := if up = true ∧ 0 < sdiff n (s.belt z).mark then n else (s.belt z).mark
             backReported := false
             counted := true } ∧
         (∀ w, w ≠ z → { t.belt w with backPressure := (s.belt w).backPressure } = s.belt w) ∧
         (up = true → (t.belt z).backReported = false) ∧
         t.io = moved.io ∧ t.clock = s.clock ∧ t.cfg = s.cfg ∧ t.link = s.link ∧
         t.readers = s.readers ∧ t.admitSet = s.admitSet ∧ t.trk.eyes = s.trk.eyes ∧
         t.gauge.held = s.gauge.held) ∧
     (new = (!old.2, old.1) →
       let n := (s.belt z).count + 1#16
       let counted := moved.setBelt z { s.belt z with
         count := n
         phase := new
         direction := .forward
         net := (s.belt z).net + 1
         mark := if 0 < sdiff n (s.belt z).mark then n else (s.belt z).mark
         backReported := false
         counted := true }
       exec (.encoderPhaseChange z x y) s = .next (match z with
         | .a => (((counted.sampleTest.spanTest.windowTest).openTest .stagingEntry).missingTest
             .stagingEntry).follow
         | .b => ((((counted.openTest .casing).missingTest .casing).openTest .pressEntry).missingTest
             .pressEntry).follow
         | .c => ((((counted.openTest .jacket).missingTest .jacket).openTest .outfeed).missingTest
             .outfeed).follow)) ∧
     (new = (old.2, !old.1) →
       let counted := moved.setBelt z { s.belt z with
         count := (s.belt z).count - 1#16
         phase := new
         direction := .reverse
         net := (s.belt z).net - 1
         backReported := false
         counted := true }
       exec (.encoderPhaseChange z x y) s = .next (match z with
         | .a => ((counted.backTravelTest .a).openTest .stagingEntry).follow
         | .b => (((counted.backTravelTest .b).openTest .casing).openTest .pressEntry).follow
         | .c => (((counted.backTravelTest .c).openTest .jacket).openTest .outfeed).follow))) ∧
  (∀ s : State,
     exec .samplePoint s = .next s.sampleTest.follow ∧ exec .spanOverrun s = .next s.spanTest.follow ∧
     exec .readWindowClose s = .next s.windowTest.follow ∧
     (∀ w, exec (.watchWindowOpen w) s = .next (s.openTest w).follow ∧
       exec (.headMissing w) s = .next (s.missingTest w).follow) ∧
     ∀ z, exec (.backTravel z) s = .next (s.backTravelTest z).follow) ∧
  (∀ (s : State) (z : Belt),
     let due := (s.belt z).direction = .reverse ∧ (s.belt z).counted = true ∧
       (s.belt z).backReported = false ∧
       sdiff (s.belt z).mark (s.belt z).count = (s.cfg.backLimit.get z : Int) + 1
     (due → ∃ t : State, exec (.backTravel z) s = .next t ∧
       Decides ((s.setBelt z { s.belt z with backReported := true }).fault (beltZone z) .backTravel)
         t) ∧
     (¬ due → ∃ t : State, exec (.backTravel z) s = .next t ∧ Decides s t))

/-- SAMPLE_POINT and SPAN_OVERRUN, while the read window of the gauging record is open: a sample whose
point is reached is settled from the held reading, and at the maximum span plus 1 the length measurement
ends without a trail capture and EYE_BLOCKED is reported for zone A. That the rows make the tests of
their rules, and none on a count taken before the configuration in force, is the model's reading (log
entries 20, 30). -/
def Obligations.GaugingCounts : Prop :=
  ∀ (s : State) (g : Gauging) (b : Book), s.gauge.current = some g → s.book? g.slot = some b →
    g.window ≠ none →
    let travel := sdiff (s.belt .a).count b.lead
    let sample : Sample := match s.gauge.held with
      | some v => if v ≤ 9999 then .value v else .invalid
      | none => .invalid
    ((s.belt .a).direction = .forward → (s.belt .a).counted = true → b.samples.length = 4 →
      ∃ (t : State) (c : Book), exec .samplePoint s = .next t ∧
        Decides (s.updBook g.slot (fun d => { d with samples :=
          (takeSamples (sdiff (s.belt .a).count d.lead) s.gauge.held (samplePoints s.cfg)
            d.samples) })) t ∧
        t.book? g.slot = some c ∧ c.samples.length = 4 ∧
        ∀ (i p : Nat) (x : Option Sample), [s.cfg.s1, s.cfg.s2, s.cfg.s3, s.cfg.s4][i]? = some p →
          b.samples[i]? = some x →
          c.samples[i]? = some (if x = none ∧ travel = (p : Int) then some sample else x)) ∧
    ((s.belt .a).direction = .reverse ∨ (s.belt .a).counted = false →
      (∃ t : State, exec .samplePoint s = .next t ∧ Decides s t) ∧
      ∃ t : State, exec .spanOverrun s = .next t ∧ Decides s t) ∧
    ((s.belt .a).direction = .forward → (s.belt .a).counted = true → g.length = .inProgress →
      travel = (s.cfg.maxSpan : Int) + 1 →
      ∃ t : State, exec .spanOverrun s = .next t ∧
        Decides (({ s with gauge := { s.gauge with
          current := some { g with length := .ended none } } } : State).fault .a .eyeBlocked) t)

/-- READ_WINDOW_CLOSE at a closing count: the window closes and the record is identified from what it
gathered — nothing is NO_READ, two that differ are AMBIGUOUS, and one is judged by the tests of R25 to
R27; the bad-read mark is taken into the record. A record that binds takes the order's template, the
order's admitted and in_process counters each rise by 1, and the copy of a COPY_EXACT order becomes
IN_PROCESS (R28); otherwise no order changes. That the row makes the test of its rule is the model's
reading (log entries 20, 30), and a counter past its range is open (log entry 3). -/
def Obligations.ReadWindowClose : Prop :=
  ∀ (s : State) (g : Gauging) (w : ReadWindow) (b : Book), s.SlotsAccounted →
    s.gauge.current = some g → g.window = some w → s.book? g.slot = some b → b.life ≠ .retired →
    b.binding = none → (s.belt .a).direction = .forward → (s.belt .a).counted = true →
    (sdiff (s.belt .a).count b.lead = (s.cfg.maxSpan : Int) + s.cfg.readGrace ∨
      ∃ t, b.trail = some t ∧ sdiff (s.belt .a).count t = (s.cfg.readGrace : Int)) →
    ∃ (t : State) (c : Book), exec .readWindowClose s = .next t ∧ t.book? g.slot = some c ∧
      (t.gauge.current = none ∨ t.gauge.current = some { g with window := none }) ∧
      c.badRead = (b.badRead || w.bad) ∧
      (w.idents = [] → c.binding = some (.unbound .noRead) ∧ c.ident = b.ident) ∧
      (∀ i ∈ w.idents, ∀ j ∈ w.idents, i ≠ j →
        c.binding = some (.unbound .ambiguous) ∧ c.ident = b.ident) ∧
      (∀ i ∈ w.idents, (∀ j ∈ w.idents, j = i) → c.ident = some i ∧
        c.binding = some (match s.identified i with
          | .unboundFor why => .unbound why
          | .expectedEarly => .early
          | .boundTo _ => .bound) ∧
        (∀ o, s.identified i = .boundTo o → c.tmpl = some o.tmpl ∧ o.tmpl.order = i.order ∧
          t.orders = s.orders.map (fun p => if p.tmpl.order = i.order then { p with
            counters := { p.counters with
              admitted := countUp i.order 0 s.clock p.counters.admitted
              inProcess := countUp i.order 1 s.clock p.counters.inProcess }
            copyMap := match p.tmpl.mode with
              | .copyExact => p.copyMap.set (i.copy - 1) .inProcess
              | .title => p.copyMap } else p)) ∧
        ((∀ o, s.identified i ≠ .boundTo o) → t.orders = s.orders)) ∧
      ((w.idents = [] ∨ ∃ i ∈ w.idents, ∃ j ∈ w.idents, i ≠ j) → t.orders = s.orders) ∧
      (∀ why, c.binding = some (.unbound why) → c.reason = some (b.reason.getD why))

/-- The tests of R25, R26 and R27 on a block identifier, and the wanted test of R31 and R32 for a case
or jacket with candidate X, with the conditions of R32 by which a bound record has passed a station. A
jacket release that was undone counts as not commanded: the model's
reading (log entry 23). -/
def Obligations.IdentificationAndWanted : Prop :=
  (∀ (s : State) (i : Ident),
     (i.item ≠ .blockItem → s.identified i = .unboundFor .wrongItem) ∧
     (i.item = .blockItem → s.order? i.order = none →
       s.identified i = if s.admitSet.getLsbD (i.order * 40503 % 65536 / 128) then .expectedEarly
         else .unboundFor .foreign) ∧
     ∀ o, i.item = .blockItem → s.order? i.order = some o →
       (o.state = .complete → s.identified i = .unboundFor .overCount) ∧
       (o.state ≠ .complete → o.tmpl.mode = .copyExact → o.copyMap.length = o.copies → 1 ≤ i.copy →
         (o.copies < i.copy → s.identified i = .unboundFor .overCount) ∧
         ∀ st, o.copyMap[i.copy - 1]? = some st → s.identified i =
           if st = .inProcess ∨ st = .finished then .unboundFor .duplicate else .boundTo o) ∧
       (o.state ≠ .complete → o.tmpl.mode = .title → s.identified i =
         if ∃ b ∈ s.table.books, b.life ≠ .retired ∧ b.binding = some .bound ∧ b.ident = some i then
           .unboundFor .duplicate
         else if o.copies ≤ o.counters.inProcess + o.counters.good + o.counters.inspect then
           .unboundFor .overCount
         else .boundTo o)) ∧
  (∀ (s : State) (st : Station) (i : Ident) (x : Book),
     let letter : Item := match st with | .caseStation => .caseItem | .jacketStation => .jacketItem
     (∀ j, (j = .unreadable ∨ j = .conflict) → s.wanted st j x = .orphan) ∧
     (i.item ≠ letter → s.wanted st (.ident i) x = .orphan) ∧
     (s.order? i.order = none → s.wanted st (.ident i) x = .orphan) ∧
     ∀ o, i.item = letter → s.order? i.order = some o →
       (o.state = .complete ∨ (st = .jacketStation ∧ o.tmpl.jacket = .none) →
         s.wanted st (.ident i) x = .orphan) ∧
       (o.state ≠ .complete → (st = .jacketStation → o.tmpl.jacket = .required) →
         let same := x.binding = some .bound ∧ x.order? = some i.order ∧
           (o.tmpl.mode = .title ∨ x.copy? = some i.copy)
         (same → s.wanted st (.ident i) x = .matchesX) ∧
         (¬ same → o.tmpl.mode = .title → s.wanted st (.ident i) x = .elsewhere) ∧
         (¬ same → o.tmpl.mode = .copyExact →
           (o.copies < i.copy → s.wanted st (.ident i) x = .orphan) ∧
           (i.copy ≤ o.copies → 1 ≤ i.copy →
             (o.copyMap[i.copy - 1]? = some .notSeen ∨ o.copyMap[i.copy - 1]? = some .rejected →
               s.wanted st (.ident i) x = .elsewhere) ∧
             (o.copyMap[i.copy - 1]? = some .finished → s.wanted st (.ident i) x = .orphan) ∧
             (∀ b, o.copyMap[i.copy - 1]? = some .inProcess →
               s.boundRecord? i.order i.copy = some b →
               s.wanted st (.ident i) x = if s.passed st b then .orphan else .elsewhere))))) ∧
  (∀ (s : State) (b : Book),
     (s.passed .caseStation b = true ↔ b.life ∉ [.gauging, .toStaging, .staged]) ∧
     (s.passed .jacketStation b = true ↔
       b.tmpl.map (·.jacket) = some .none ∨ b.life = .toOutfeed ∨ b.life = .retired ∨
       (b.life = .atJacket ∧ (b.marriedJacket ≠ none ∨
         ∃ timer, s.dlv.stop = .inCycle b.slot timer ∨ s.dlv.stop = .releasing b.slot timer))))

/-- The verdict checks in the order of R88, each asking for its reason on a record that carries none and
stopping there: GAUGE_FAIL with fewer than three valid samples or no length, SPREAD, WRONG_SIZE. Then
R89: the required spine, its range, and the fit verdict by the difference from the nominal spine, with
the reason it asks for. -/
def Obligations.SpineFit : Prop :=
  (∀ (b : Book) (k : Template) (limit : Nat),
    let stops (why : Reason) := b.judged k limit = { b with reason := some (b.reason.getD why) }
    let valid := (validSamples b.samples).length
    (valid < 3 ∨ b.lm = none → stops .gaugeFail) ∧
    ∀ t sp lm, b.thickness = some t → b.spread = some sp → b.lm = some lm → 3 ≤ valid →
      (limit < sp → stops .spread) ∧
      (sp ≤ limit → k.lengthTol < ((lm : Int) - k.trim).natAbs → stops .wrongSize)) ∧
  ∀ (b : Book) (k : Template) (limit t sp lm : Nat), b.thickness = some t → b.spread = some sp →
    b.lm = some lm → 3 ≤ (validSamples b.samples).length → sp ≤ limit →
    ((lm : Int) - k.trim).natAbs ≤ k.lengthTol →
    let sr := t + 2 * k.board + (t * k.rounding + 999) / 1000
    let d : Int := (sr : Int) - k.spine
    let ts : Int := k.spineTol
    (b.judged k limit).sr = some sr ∧
    (t ≤ 9999 → 100 ≤ k.board → k.board ≤ 400 → k.rounding ≤ 150 → 200 ≤ sr ∧ sr ≤ 12299) ∧
    (-ts ≤ d → d ≤ ts →
      (b.judged k limit).verdict = some .fit ∧ (b.judged k limit).reason = b.reason) ∧
    (ts < d → (b.judged k limit).verdict = some .tight ∧
      (b.judged k limit).reason = some (b.reason.getD .spineTight)) ∧
    (d < -ts → k.looseAccept = true → -d ≤ 2 * ts →
      (b.judged k limit).verdict = some .looseOk ∧ (b.judged k limit).reason = b.reason) ∧
    (d < -ts → k.looseAccept = false ∨ 2 * ts < -d →
      (b.judged k limit).verdict = some .loose ∧
      (b.judged k limit).reason = some (b.reason.getD .spineLoose))

/-- GAUGE_LEADING_EDGE: with a slot free and fewer than 8 records in transit a record is created in the
lowest free slot and becomes the gauging record; otherwise UNTRACKED is reported and the gauging record
stays; an edge less than the minimum pitch after the last is first reported CROWDED. A record whose
gauging has not completed is completed by force when the new one is created: an open window closes and the
record is identified from what it gathered, unsettled samples are INVALID, a length in progress ends
without a trail capture, and the record goes to TO_STAGING, failed if it cannot be judged. The row's edge
is taken whatever the line stood at (log entry 19). -/
def Obligations.GaugeLeadingEdge : Prop :=
  ∀ s : State, (s.point 7).mode = .input → s.cfg.window.a < s.cfg.dStage → s.cfg.dStage ≤ 32767 →
    let n := (s.belt .a).count
    let crowded := ∃ l, s.table.lastLead = some l ∧ sdiff n l < (s.cfg.minPitch : Int)
    let noted := (s.blocked 7).noteEdge .gauge
    ∃ edge : State,
      (crowded → edge = { noted.fault .a .crowded with
        table := { s.table with lastLead := some n } }) ∧
      (¬ crowded → edge = { noted with table := { s.table with lastLead := some n } }) ∧
      (∀ slot, 1 ≤ slot → slot ≤ 96 → s.book? slot = none →
        (∀ k, 1 ≤ k → k < slot → s.book? k ≠ none) → s.table.transit.length < 8 →
        let taken : Gauging := ⟨slot, s.table.nextSeq, .inProgress, some ⟨[], false⟩⟩
        (s.gauge.current = none → ∃ t : State, exec .gaugeLeadingEdge s = .next t ∧
          Decides { edge with
            table := { edge.table with
              books := s.table.books ++ [newBook slot s.table.nextSeq s.clock n]
              nextSeq := if s.table.nextSeq = 4294967295 then 1 else s.table.nextSeq + 1
              transit := s.table.transit ++ [slot] }
            gauge := { s.gauge with current := some taken }
            trk := { edge.trk with opened := { s.trk.opened with stagingEntry :=
              if s.table.transit = [] then false else s.trk.opened.stagingEntry } } } t) ∧
        (∀ (g : Gauging) (b : Book), s.SlotsAccounted → s.gauge.current = some g →
          s.book? g.slot = some b → b.life = .gauging →
          let settled := b.samples.map (fun x => some (x.getD .invalid))
          let valid := validSamples settled
          ∃ (t : State) (c d : Book), exec .gaugeLeadingEdge s = .next t ∧
            t.gauge = { s.gauge with current := some taken } ∧
            t.table.transit = s.table.transit ++ [slot] ∧ t.table.outcomes = s.table.outcomes ∧
            t.book? slot = some d ∧ (newBook slot s.table.nextSeq s.clock n).Decided d ∧
            t.book? g.slot = some c ∧ c.life = .toStaging ∧ c.samples = settled ∧
            c.trail = b.trail ∧ c.lm = b.lm ∧ c.position = b.position ∧
            (3 ≤ valid.length →
              c.thickness = some ((2 * valid.sum + valid.length) / (2 * valid.length))) ∧
            (c.binding = some .bound → c.tmpl ≠ none → valid.length < 3 ∨ b.lm = none →
              c.reason = some (b.reason.getD .gaugeFail)) ∧
            (g.window = none → c.ident = b.ident ∧ c.binding = b.binding ∧ c.badRead = b.badRead ∧
              t.orders = s.orders) ∧
            ∀ w, g.window = some w → b.binding = none →
              c.badRead = (b.badRead || w.bad) ∧
              (w.idents = [] → c.binding = some (.unbound .noRead) ∧ c.ident = b.ident) ∧
              (∀ i ∈ w.idents, ∀ j ∈ w.idents, i ≠ j →
                c.binding = some (.unbound .ambiguous) ∧ c.ident = b.ident) ∧
              (∀ i ∈ w.idents, (∀ j ∈ w.idents, j = i) → c.ident = some i ∧
                c.binding = some (match s.identified i with
                  | .unboundFor why => .unbound why
                  | .expectedEarly => .early
                  | .boundTo _ => .bound) ∧
                ∀ o, s.identified i = .boundTo o → c.tmpl = some o.tmpl) ∧
              ∀ why, c.binding = some (.unbound why) → c.reason = some (b.reason.getD why))) ∧
      ((∀ k, 1 ≤ k → k ≤ 96 → s.book? k ≠ none) ∨ 8 ≤ s.table.transit.length →
        exec .gaugeLeadingEdge s = .next (edge.fault .a .untracked) ∧
        (edge.fault .a .untracked).gauge = s.gauge)

/-- GAUGE_TRAILING_EDGE: the unsettled samples are settled INVALID, a forward length is stored with its
capture, and the gauging completes if its read window is already closed; with no gauging record, and at
the other eyes, a trailing edge leaves the units to their decisions alone, or does nothing. The row's
edge is taken whatever the line stood at (log entry 19). -/
def Obligations.TrailingEdges : Prop :=
  ∀ s : State,
    (∀ e : Eye, e ≠ .gauge → exec (.eyeTrailingEdge e) s = .next (s.cleared (eyePoint e))) ∧
    ((s.point 7).mode = .input → s.gauge.current = none →
      ∃ t : State, exec .gaugeTrailingEdge s = .next t ∧ Decides (s.cleared 7) t) ∧
    ((s.point 7).mode = .input → ∀ (g : Gauging) (b : Book), s.gauge.current = some g →
      s.book? g.slot = some b → b.life = .gauging → g.length = .inProgress →
      let n := (s.belt .a).count
      let settled := b.samples.map (fun x => some (x.getD .invalid))
      let forward := 0 < sdiff n b.lead
      ∃ (t : State) (c : Book), exec .gaugeTrailingEdge s = .next t ∧ t.book? g.slot = some c ∧
        c.samples = settled ∧
        (forward → c.trail = some n ∧
          c.lm = some ((2 * ((n - b.lead).toNat * s.cfg.scale.a) + 10) / 20)) ∧
        (¬ forward → c.trail = b.trail ∧ c.lm = b.lm) ∧
        (g.window ≠ none → c.life = .gauging ∧ t.gauge.current = some { g with
          length := .ended (if forward then some n else none) }) ∧
        (g.window = none → c.life = .toStaging ∧ t.gauge.current = none ∧
          (3 ≤ (validSamples settled).length → c.thickness = some
            ((2 * (validSamples settled).sum + (validSamples settled).length) /
              (2 * (validSamples settled).length)))))

/-- WATCH_WINDOW_OPEN: at a count within the window of a head not yet opened for, the opened flag is
set; at the outfeed the record's lane is set by the table of R142, and the gate with it; a record still
GAUGING at the staging entry is completed by force. HEAD_MISSING: at an up-count with s(count − target)
equal to W + 1 the head retires LOST and MISSING is reported for the zone; each next head that already
lies beyond its window goes with it, and one within it has its window opened, so that the head left has
its window open just when it lies within it. A casing section that loses its head is EMPTY, with the
reserved case let go. Otherwise nothing but decisions comes about. That the rows make the tests of their rules is the model's reading (log entries
20, 30). -/
def Obligations.WatchWindowsAndMissingHeads : Prop :=
  (∀ (s : State) (w : Watch) (b : Book) (target : Count), s.target? w = some (b, target) →
     let due := s.inWindow w target = true ∧ s.trk.opened.get w = false
     (¬ due → ∃ t : State, exec (.watchWindowOpen w) s = .next t ∧ Decides s t) ∧
     (due → w ≠ .outfeed → w ≠ .stagingEntry ∨ b.life ≠ .gauging ∨
         (∀ g, s.gauge.current = some g → g.slot ≠ b.slot) →
       ∃ t : State, exec (.watchWindowOpen w) s = .next t ∧ Decides (s.setOpened w true) t) ∧
     (due → w = .stagingEntry → b.life = .gauging →
       (∃ g, s.gauge.current = some g ∧ g.slot = b.slot) →
       ∃ (t : State) (c : Book), exec (.watchWindowOpen w) s = .next t ∧
         t.book? b.slot = some c ∧ c.life = .toStaging ∧ t.gauge.current = none ∧
         t.trk.opened.get w = true ∧ c.samples = b.samples.map (fun x => some (x.getD .invalid))) ∧
     (due → w = .outfeed → b.lane = none →
       let taken := ∃ n o, b.order? = some n ∧ s.order? n = some o ∧ o.proofTaken = true
       ∃ (t : State) (c : Book) (l : Lane), exec (.watchWindowOpen w) s = .next t ∧
         t.trk.opened.get w = true ∧ t.book? b.slot = some c ∧ c.lane = some l ∧ t.dlv.gate = l ∧
         (b.reason ≠ none → l = .reject ∧ c.proof = b.proof ∧ t.orders = s.orders) ∧
         (b.reason = none → b.tmpl.map (·.jacket) = some .required →
           b.jacketResult = some .unjacketed →
           l = .inspect ∧ c.proof = b.proof ∧ t.orders = s.orders) ∧
         (b.reason = none →
           ¬ (b.tmpl.map (·.jacket) = some .required ∧ b.jacketResult = some .unjacketed) →
           (b.tmpl.map (·.proofFirst) = some true → ¬ taken → l = .inspect ∧ c.proof = true ∧
             ∀ n o, b.order? = some n → s.order? n = some o →
               t.order? n = some { o with proofTaken := true }) ∧
           (b.tmpl.map (·.proofFirst) ≠ some true ∨ taken →
             l = .good ∧ c.proof = b.proof ∧ t.orders = s.orders)))) ∧
  (∀ (s : State) (w : Watch) (b : Book) (target : Count), s.target? w = some (b, target) →
     let z := beltZone (watchBelt w)
     let due := (s.belt (watchBelt w)).direction = .forward ∧ (s.belt (watchBelt w)).counted = true ∧
       sdiff (s.belt (watchBelt w)).count target = (s.cfg.window.get (watchBelt w) : Int) + 1
     (¬ due → ∃ t : State, exec (.headMissing w) s = .next t ∧ Decides s t) ∧
     (due → ∃ (t : State) (c : Book), exec (.headMissing w) s = .next t ∧
       t.book? b.slot = some c ∧ c.life = .retired ∧ c.outcome = some .lost ∧
       c.lifeAtRetirement = some b.life ∧ c.retiredAt = some s.clock ∧ c.position = none ∧
       b.slot ∈ t.table.outcomes ∧
       t.zoneState z = (if s.zoneState z = .tripped then .tripped else .faulted) ∧
       (s.zoneState z ≠ .faulted → s.zoneState z ≠ .tripped →
         (t.zones.get z).code = some .missing) ∧
       (∃ more : List Nat, t.table.outcomes = s.table.outcomes ++ b.slot :: more ∧
         ∀ r ∈ more, ∃ x y p, s.book? r = some x ∧ headState w x.life = true ∧ x.position = some p ∧
           (s.cfg.window.get (watchBelt w) : Int) < sdiff (s.belt (watchBelt w)).count
             (p.2 + BitVec.ofNat 16 (watchDistance s.cfg w)) ∧
           t.book? r = some y ∧ y.life = .retired ∧ y.outcome = some .lost) ∧
       (∀ x next, t.target? w = some (x, next) →
         sdiff (t.belt (watchBelt w)).count next ≤ (s.cfg.window.get (watchBelt w) : Int)) ∧
       (t.trk.opened.get w = true ↔ ∃ x next, t.target? w = some (x, next) ∧
         t.inWindow w next = true) ∧
       (w = .casing → t.stg.casing = .empty ∧ t.stg.cases = (match s.stg.cases with
         | [] => []
         | e :: rest => { e with reserved := false } :: rest)) ∧
       t.clock = s.clock ∧ t.cfg = s.cfg ∧ t.io = s.io ∧ t.link = s.link ∧ t.readers = s.readers))

/-- WATCH_POINT_ARRIVAL outside the head's window, or without a head, is UNEXPECTED; within it the head
is moved on to its next stage, or, at a full staging queue, press queue or jacket stop, refused without
any effect. The row's edge is taken whatever the line stood at (log entry 19). -/
def Obligations.WatchPointArrival : Prop :=
  ∀ (s : State) (w : Watch), (s.point (eyePoint (watchEye w))).mode = .input →
    let noted := (s.blocked (eyePoint (watchEye w))).noteEdge (watchEye w)
    (s.target? w = none → exec (.watchPointArrival w) s =
      .next (noted.fault (beltZone (watchBelt w)) .unexpected)) ∧
    ∀ (b : Book) (target : Count), s.target? w = some (b, target) →
      (s.inWindow w target = false → exec (.watchPointArrival w) s =
        .next (noted.fault (beltZone (watchBelt w)) .unexpected)) ∧
      (s.inWindow w target = true →
        (w = .stagingEntry ∧ 4 ≤ s.stg.queue.length) ∨
          (w = .pressEntry ∧ 3 ≤ s.press.queue.length) ∨ (w = .jacket ∧ s.dlv.stop ≠ .empty) →
        exec (.watchPointArrival w) s = .next noted) ∧
      (s.inWindow w target = true →
        (w = .stagingEntry ∧ s.stg.queue.length < 4) ∨ w = .casing ∨
          (w = .pressEntry ∧ s.press.queue.length < 3) ∨ (w = .jacket ∧ s.dlv.stop = .empty) →
        ∃ (t : State) (c : Book), exec (.watchPointArrival w) s = .next t ∧
          t.book? b.slot = some c ∧ c.position = none ∧
          c.life = (match w with
            | .stagingEntry => .staged
            | .casing => .casing
            | .pressEntry => .pressQueued
            | .jacket => .atJacket
            | .outfeed => .retired) ∧
          ({ c with life := b.life, position := b.position } : Book).fixed = b.fixed ∧
          (w = .stagingEntry → t.stg.queue.getLast? = some b.slot ∧ b.slot ∉ t.table.transit) ∧
          (w = .casing → t.stg.casing = (if s.active .b ∧ s.io.armed then
            .inCycle b.slot ⟨s.clock, s.cfg.casingTimeout⟩ else .cyclePending b.slot)) ∧
          (w = .pressEntry → t.press.queue.getLast? = some b.slot ∧
            b.slot ∉ t.table.pressApproach) ∧
          (w = .jacket → t.dlv.stop.record? = some b.slot ∧ b.slot ∉ t.table.jacketApproach) ∧
          t.clock = s.clock ∧ t.cfg = s.cfg ∧ t.link = s.link ∧ t.readers = s.readers ∧
          t.io = noted.io) ∧
      (s.inWindow w target = true → w = .outfeed → ∀ l, b.lane = some l →
        ∃ (t : State) (c : Book), exec (.watchPointArrival w) s = .next t ∧
          t.book? b.slot = some c ∧ c.life = .retired ∧ b.slot ∈ t.table.outcomes ∧
          b.slot ∉ t.table.delivery ∧ c.retiredAt = some s.clock ∧ c.outcome = some (match l with
            | .good => .good
            | .inspect => .inspect
            | .reject => .rejected b.reason))

/-- R65: an edge of a confirmation eye, RELEASE, REJECT, CASING_EXIT, UNLOAD or JACKET_EXIT, with nothing
in flight for it to confirm is reported UNEXPECTED for the eye's zone, and nothing else but its capture
comes about. The RELEASE edge confirms the forward release in flight, and the REJECT edge the release to
the reject lane: the head goes to the casing section with its case, or retires REJECTED with its reason.
The rows' edges are taken whatever the lines stood at (log entry 19). -/
def Obligations.StagingConfirmations : Prop :=
  (∀ s : State,
    ((s.point 9).mode = .input → (∀ timer, s.stg.side ≠ .forwardInFlight timer) →
      exec .releaseEyeEdge s =
        .next (((s.blocked 9).noteEdge .release).fault .b .unexpected)) ∧
    ((s.point 10).mode = .input → (∀ timer, s.stg.side ≠ .rejectInFlight timer) →
      exec .rejectEyeEdge s = .next (((s.blocked 10).noteEdge .reject).fault .b .unexpected)) ∧
    ((s.point 12).mode = .input → (∀ r timer, s.stg.casing ≠ .releasing r timer) →
      exec .casingExitEyeEdge s =
        .next (((s.blocked 12).noteEdge .casingExit).fault .b .unexpected)) ∧
    ((s.point 14).mode = .input → s.press.awaited = none →
      exec .unloadEyeEdge s = .next (((s.blocked 14).noteEdge .unload).fault .c .unexpected)) ∧
    ((s.point 16).mode = .input → (∀ r timer, s.dlv.stop ≠ .releasing r timer) →
      exec .jacketExitEyeEdge s =
        .next (((s.blocked 16).noteEdge .jacketExit).fault .c .unexpected))) ∧
  ∀ (s : State) (r : Nat) (rest : List Nat) (b : Book) (timer : Timer), s.stg.queue = r :: rest →
    s.book? r = some b → b.life = .staged →
    ((s.point 9).mode = .input → s.stg.side = .forwardInFlight timer → s.stg.casing = .empty →
      s.cfg.window.b < s.cfg.dCase → s.cfg.dCase ≤ 32767 →
      let noted := (s.blocked 9).noteEdge .release
      ∃ t : State, exec .releaseEyeEdge s = .next t ∧
        Decides { noted.updBook r (fun d => { d with
            life := .toCasing
            position := some (.b, (s.belt .b).count)
            marriedCase := (match s.stg.cases with
              | ⟨.ident i, _⟩ :: _ => some i
              | _ => none) }) with
          stg := { s.stg with queue := rest, casing := .approach r, side := .idle .none }
          trk := { noted.trk with opened := { s.trk.opened with casing := false } } } t) ∧
    ((s.point 10).mode = .input → s.stg.side = .rejectInFlight timer →
      ∃ (t : State) (c : Book), exec .rejectEyeEdge s = .next t ∧
        Decides ((((s.blocked 10).noteEdge .reject).setSide (.idle .none)).retire r
          (.rejected none)) t ∧
        t.book? r = some c ∧ c.life = .retired ∧ c.outcome = some (.rejected b.reason) ∧
        c.retiredAt = some s.clock ∧ c.lifeAtRetirement = some .staged ∧
        t.table.outcomes = s.table.outcomes ++ [r] ∧ r ∉ t.stg.queue)

/-- The CASING_EXIT, UNLOAD and JACKET_EXIT edges confirm the casing release, the awaited unload and the
jacket release: the record takes the capture as its reference on the belt it is now on, and an unloaded
record may stand behind others. The rows' edges are taken whatever the lines stood at (log entry 19). -/
def Obligations.BeltConfirmations : Prop :=
  ∀ (s : State) (r : Nat) (b : Book) (timer : Timer), s.book? r = some b →
    ((s.point 12).mode = .input → s.stg.casing = .releasing r timer → b.life = .casing →
      s.table.pressApproach.length < 4 → s.cfg.window.b < s.cfg.dPress → s.cfg.dPress ≤ 32767 →
      let noted := (s.blocked 12).noteEdge .casingExit
      ∃ t : State, exec .casingExitEyeEdge s = .next t ∧
        let moved := noted.updBook r (fun d => { d with
          life := .toPress, position := some (.b, (s.belt .b).count) })
        Decides { moved with
          table := { moved.table with pressApproach := s.table.pressApproach ++ [r] }
          stg := { s.stg with casing := .empty }
          trk := { noted.trk with opened := { s.trk.opened with pressEntry :=
            if s.table.pressApproach = [] then false else s.trk.opened.pressEntry } } } t) ∧
    ((s.point 14).mode = .input → s.press.awaited = some (r, timer) → b.life = .toJacket →
      (s.table.jacketApproach.head? = some r →
        s.cfg.window.c < s.cfg.dJkt ∧ s.cfg.dJkt ≤ 32767) →
      let noted := (s.blocked 14).noteEdge .unload
      ∃ t : State, exec .unloadEyeEdge s = .next t ∧
        Decides { noted.updBook r (fun d =>
            if d.life = .toJacket then { d with position := some (.c, (s.belt .c).count) } else d) with
          press := { s.press with awaited := none } } t) ∧
    ((s.point 16).mode = .input → s.dlv.stop = .releasing r timer → b.life = .atJacket →
      s.table.delivery.length < 6 → s.cfg.window.c < s.cfg.dOut → s.cfg.dOut ≤ 32767 →
      let noted := (s.blocked 16).noteEdge .jacketExit
      ∃ t : State, exec .jacketExitEyeEdge s = .next t ∧
        let moved := noted.updBook r (fun d => { d with
          life := .toOutfeed, position := some (.c, (s.belt .c).count) })
        Decides { moved with
          table := { moved.table with delivery := s.table.delivery ++ [r] }
          dlv := { s.dlv with stop := .empty }
          trk := { noted.trk with opened := { s.trk.opened with outfeed :=
            if s.table.delivery = [] then false else s.trk.opened.outfeed } } } t)

/-- CASE_FED and JACKET_FED hand over the held scan and empty it; the item joins the tail of its queue,
or, at six entries, is reported as an overfeed and changes nothing else. CASE_EJECTED and
JACKET_EJECTED: the confirmation of an eject in flight, or of an overdue one, removes the head entry and
counts it for its order; with neither, nothing but the line changes. The rows' edges are taken whatever
the lines stood at (log entry 19), and a counter past its range is open (log entry 3). -/
def Obligations.FeedsAndEjections : Prop :=
  (∀ (s : State),
     let identity (h : HeldScan) : Identity := match h with
       | .holding i => .ident i
       | .empty => .unreadable
       | .conflict => .conflict
     let kase : State := { s.blocked 18 with readers := { s.readers with heldCase := .empty } }
     let jacket : State := { s.blocked 23 with readers := { s.readers with heldJacket := .empty } }
     ((s.point 18).mode = .input → s.stg.cases.length < 6 →
       ∃ t : State, exec .caseFed s = .next t ∧ Decides kase t ∧ t.stg.cases.map (·.identity) =
         s.stg.cases.map (·.identity) ++ [identity s.readers.heldCase]) ∧
     ((s.point 18).mode = .input → 6 ≤ s.stg.cases.length →
       exec .caseFed s = .next (kase.fault .b .caseOverfeed)) ∧
     ((s.point 23).mode = .input → s.dlv.jackets.length < 6 →
       ∃ t : State, exec .jacketFed s = .next t ∧ Decides jacket t ∧
         (t.dlv.jackets = s.dlv.jackets ++ [identity s.readers.heldJacket] ∨
           (∃ r timer, t.dlv.stop = .inCycle r timer) ∧
             t.dlv.jackets = (s.dlv.jackets ++ [identity s.readers.heldJacket]).tail)) ∧
     ((s.point 23).mode = .input → 6 ≤ s.dlv.jackets.length →
       exec .jacketFed s = .next (jacket.fault .c .jacketOverfeed))) ∧
  (∀ (s : State) (timer : Timer) (r : Nat),
     let counted (t : State) (i : Identity) (f : Order → Order) : State := match i with
       | .ident x => t.updOrder x.order f
       | .unreadable | .conflict => t
     let caseUp (o : Order) : Order := { o with counters := { o.counters with
       casesEjected := countUp o.tmpl.order 7 s.clock o.counters.casesEjected } }
     let jacketUp (o : Order) : Order := { o with counters := { o.counters with
       jacketsEjected := countUp o.tmpl.order 8 s.clock o.counters.jacketsEjected } }
     ((s.point 19).mode = .input → ∀ e rest, s.stg.cases = e :: rest →
       s.stg.side = .ejectInFlight timer →
       ∃ t : State, exec .caseEjected s = .next t ∧ Decides (counted (s.blocked 19) e.identity caseUp) t ∧
         t.stg.cases.map (·.identity) = rest.map (·.identity)) ∧
     ((s.point 19).mode = .input → ∀ e rest, s.stg.cases = e :: rest →
       s.stg.side.ejecting = false → s.stg.overdue = true →
       ∃ t : State, exec .caseEjected s = .next t ∧
         Decides { counted (s.blocked 19) e.identity caseUp with
           stg := { s.stg with overdue := false } } t ∧
         t.stg.cases.map (·.identity) = rest.map (·.identity)) ∧
     (s.stg.side.ejecting = false → s.stg.overdue = false →
       exec .caseEjected s = .next (s.blocked 19)) ∧
     ((s.point 24).mode = .input → ∀ e rest, s.dlv.jackets = e :: rest →
       s.dlv.stop = .ejectInFlight r timer →
       ∃ t : State, exec .jacketEjected s = .next t ∧ Decides (counted (s.blocked 24) e jacketUp) t ∧
         (t.dlv.jackets = rest ∨
           (∃ q u, t.dlv.stop = .inCycle q u) ∧ t.dlv.jackets = rest.tail)) ∧
     ((s.point 24).mode = .input → ∀ e rest, s.dlv.jackets = e :: rest →
       (∀ q u, s.dlv.stop ≠ .ejectInFlight q u) → s.dlv.overdue = true →
       ∃ t : State, exec .jacketEjected s = .next t ∧
         Decides { counted (s.blocked 24) e jacketUp with
           dlv := { s.dlv with overdue := false } } t ∧
         (t.dlv.jackets = rest ∨
           (∃ q u, t.dlv.stop = .inCycle q u) ∧ t.dlv.jackets = rest.tail)) ∧
     ((∀ q u, s.dlv.stop ≠ .ejectInFlight q u) → s.dlv.overdue = false →
       exec .jacketEjected s = .next (s.blocked 24)))

/-- CASING_DONE, CASING_FAULT, JACKET_DONE and JACKET_FAULT end the cycle in flight, with a reason or a
jacket result as their rules give, and are ignored with none in flight. The rows' edges are taken
whatever the lines stood at (log entry 19). -/
def Obligations.CyclesEnd : Prop :=
  ∀ (s : State) (r : Nat) (timer : Timer) (b : Book),
    ((s.point 20).mode = .input → s.stg.casing = .inCycle r timer →
      ∃ t : State, exec .casingDone s = .next t ∧ Decides (s.blocked 20) t ∧
        t.table.books = s.table.books ∧
        t.stg.casing = (if s.active .b ∧ s.io.armed ∧ s.table.pressApproach.length < 4 then
          .releasing r ⟨s.clock, s.cfg.releaseTimeout⟩ else .cased r)) ∧
    ((s.point 21).mode = .input → s.stg.casing = .inCycle r timer → s.book? r = some b →
      b.life ≠ .retired →
      ∃ (t : State) (c : Book), exec .casingFault s = .next t ∧ Decides (s.blocked 21) t ∧
        t.book? r = some c ∧ c.reason = some (b.reason.getD .casingFault) ∧
        t.stg.casing = (if s.active .b ∧ s.io.armed ∧ s.table.pressApproach.length < 4 then
          .releasing r ⟨s.clock, s.cfg.releaseTimeout⟩ else .cased r)) ∧
    ((∀ q u, s.stg.casing ≠ .inCycle q u) →
      exec .casingDone s = .next (s.blocked 20) ∧ exec .casingFault s = .next (s.blocked 21)) ∧
    ((s.point 25).mode = .input → s.dlv.stop = .inCycle r timer → s.book? r = some b →
      ∃ (t : State) (c : Book), exec .jacketDone s = .next t ∧ Decides (s.blocked 25) t ∧
        t.book? r = some c ∧ c.jacketResult = some .jacketed ∧ c.reason = b.reason ∧
        t.dlv.stop = (if s.active .c ∧ s.io.armed ∧ s.table.delivery.length < 6 then
          .releasing r ⟨s.clock, s.cfg.releaseTimeout⟩ else .done r)) ∧
    ((s.point 26).mode = .input → s.dlv.stop = .inCycle r timer → s.book? r = some b →
      ∃ (t : State) (c : Book), exec .jacketFault s = .next t ∧ Decides (s.blocked 26) t ∧
        t.book? r = some c ∧ c.jacketResult = some .unjacketed ∧ c.reason = b.reason ∧
        t.dlv.stop = (if s.active .c ∧ s.io.armed ∧ s.table.delivery.length < 6 then
          .releasing r ⟨s.clock, s.cfg.releaseTimeout⟩ else .done r)) ∧
    ((∀ q u, s.dlv.stop ≠ .inCycle q u) →
      exec .jacketDone s = .next (s.blocked 25) ∧ exec .jacketFault s = .next (s.blocked 26))

/-- INDEX_DONE applies the index in flight: the ring turns by one pitch, a record unloaded goes to the
jacket approach list with its grace running, one loaded goes into its pocket with the command time as
its load time, and one carried past the unload station has its laps raised; with no index in flight it
is ignored. The row's edge is taken whatever the line stood at (log entry 19). -/
def Obligations.IndexDone : Prop :=
  ∀ s : State, (s.point 22).mode = .input →
    (s.press.index = none → exec .indexDone s = .next (s.blocked 22)) ∧
    ∀ op : IndexOp, s.press.index = some op →
      (∀ p r, op.load = some (p, r) → ∃ b, s.book? r = some b ∧ b.life = .pressQueued) →
      (∀ p r, op.unload = some (p, r) → s.table.jacketApproach.length < 6 ∧
        ∃ b, s.book? r = some b ∧ b.life = .pressing) →
      let turned : State := { s.blocked 22 with
        press := { s.press with index := none, rotation := (s.press.rotation + 1) % 24 }
        trk := { s.trk with opened := { s.trk.opened with
          jacket := if s.table.jacketApproach = [] then false else s.trk.opened.jacket } } }
      let unloaded : State := match op.unload with
        | none => turned
        | some (p, r) => ({ turned with
            table := { s.table with jacketApproach := s.table.jacketApproach ++ [r] }
            press := { turned.press with
              pockets := s.press.pockets.set p none
              awaited := some (r, ⟨s.clock, s.cfg.unloadGrace⟩) } } : State).updBook r (fun x => { x with
                life := .toJacket, position := none, press := none })
      let loaded : State := match op.load with
        | none => unloaded
        | some (p, r) => ({ unloaded with press := { unloaded.press with
            pockets := unloaded.press.pockets.set p (some r)
            queue := s.press.queue.filter (· != r) } } : State).updBook r (fun x => { x with
              life := .pressing
              position := none
              press := some ⟨p, op.timer.since, 0⟩ })
      let ridden : State := match op.unload, s.pocket? op.station with
        | none, some r => loaded.updBook r (fun x => { x with press := x.press.map (fun y =>
            { y with laps := if y.laps < 255 then y.laps + 1 else 255 }) })
        | _, _ => loaded
      ∃ t : State, exec .indexDone s = .next t ∧ Decides ridden.recomputePeriod t

/-! ### The guard -/

/-- GUARD_OPENS with the guard CLOSED is a trip: the outputs disarm, every zone is TRIPPED with its code
and flag kept, the operations in flight end as R114, R130 and R145 give, the case or jacket of an
eject in flight counting as ejected for its order, an awaited unload goes on, and no actuator is driven;
GUARD_CLOSES moves the guard state alone. A counter past its range is open (log entry 3). That the rows move the line of point 27
is the model's reading (log entry 19). -/
def Obligations.GuardOpensAndCloses : Prop :=
  ∀ s : State, s.io.points.length = 48 → (s.point 27).mode = .input →
    let caseOf : Option Nat := match s.stg.side, s.stg.cases with
      | .ejectInFlight _, ⟨.ident i, _⟩ :: _ => some i.order
      | _, _ => none
    let jacketOf : Option Nat := match s.dlv.stop, s.dlv.jackets with
      | .ejectInFlight _ _, .ident i :: _ => some i.order
      | _, _ => none
    (s.io.guardClosed = false → exec .guardOpens s = .next (s.cleared 27)) ∧
    (exec .guardCloses s = .next { s.blocked 27 with
      io := { (s.blocked 27).io with guardClosed := true } }) ∧
    (s.io.guardClosed = true → ∃ t : State, exec .guardOpens s = .next t ∧
      t.io.guardClosed = false ∧ t.io.armed = false ∧
      (∀ n, isActuator n = true → t.driven n = false) ∧
      (∀ z, t.zones.get z = { s.zones.get z with state := .tripped }) ∧
      t.stg.side = .idle .none ∧ t.stg.queue = s.stg.queue ∧ t.stg.overdue = s.stg.overdue ∧
      t.stg.cases = (match s.stg.side, s.stg.cases with
        | .forwardInFlight _, e :: rest => { e with reserved := false } :: rest
        | .ejectInFlight _, _ :: rest => rest
        | _, l => l) ∧
      t.stg.casing = (match s.stg.casing with
        | .inCycle r _ => .cased r
        | .releasing r _ => .cased r
        | c => c) ∧
      t.press = { s.press with index := none } ∧
      t.dlv.stop = (match s.dlv.stop with
        | .ejectInFlight r _ => .waiting r none
        | .waiting r _ => .waiting r none
        | .inCycle r _ => .done r
        | .releasing r _ => .done r
        | x => x) ∧
      t.dlv.jackets = (match s.dlv.stop, s.dlv.jackets with
        | .ejectInFlight _ _, _ :: rest => rest
        | _, l => l) ∧
      t.orders = s.orders.map (fun o => { o with counters := { o.counters with
        casesEjected := if caseOf = some o.tmpl.order then
          countUp o.tmpl.order 7 s.clock o.counters.casesEjected else o.counters.casesEjected
        jacketsEjected := if jacketOf = some o.tmpl.order then
          countUp o.tmpl.order 8 s.clock o.counters.jacketsEjected else o.counters.jacketsEjected } }) ∧
      t.dlv.gate = s.dlv.gate ∧ t.dlv.overdue = s.dlv.overdue ∧
      (∀ r timer b, s.stg.casing = .inCycle r timer → s.book? r = some b → b.life ≠ .retired →
        ∃ c, t.book? r = some c ∧ c.reason = some (b.reason.getD .suspect)) ∧
      (∀ r timer b, s.dlv.stop = .inCycle r timer → s.book? r = some b → b.life ≠ .retired →
        ∃ c, t.book? r = some c ∧ c.reason = some (b.reason.getD .suspect) ∧
          c.jacketResult = some .unjacketed) ∧
      { t.table with books := s.table.books } = s.table ∧
      (∀ z, { t.belt z with backPressure := (s.belt z).backPressure } = s.belt z) ∧
      t.gauge = s.gauge ∧ t.readers = s.readers ∧ t.admitSet = s.admitSet ∧ t.cfg = s.cfg ∧
      t.clock = s.clock ∧ t.link = s.link)

/-! ### Decisions and commands of the units -/

/-- STAGING_HEAD_DECISION: the tests of R97 and R98 for the head record X, in their order, with what
each result commands, starts or sets; without a head, a RUNNING zone B or an IDLE side nothing is
decided. That the row makes the tests of its rule is the model's reading (log entry 20). -/
def Obligations.StagingHeadDecision : Prop :=
  ∀ s : State,
    (s.zoneState .b ≠ .running ∨ (∀ w, s.stg.side ≠ .idle w) ∨ s.stg.queue = [] →
      exec .stagingHeadDecision s = .next s) ∧
    ∀ (w : StagingWait) (r : Nat) (rest : List Nat) (x : Book), s.zoneState .b = .running →
      s.stg.side = .idle w → s.stg.queue = r :: rest → s.book? r = some x →
      let side (v : StagingSide) : State := { s with stg := { s.stg with side := v } }
      let reject : StagingSide := .rejectInFlight ⟨s.clock, s.cfg.releaseTimeout⟩
      let eject : StagingSide := .ejectInFlight ⟨s.clock, s.cfg.caseEjectTimeout⟩
      let caseWait : StagingSide := .idle (.caseWait (match w with
        | .caseWait t => t
        | _ => ⟨s.clock, s.cfg.caseWait⟩))
      let held := ∃ n o, x.order? = some n ∧ s.order? n = some o ∧ o.state = .held
      let free := x.binding = some .bound ∧ x.reason = none ∧ ¬ held ∧ s.stg.casing = .empty
      ((∃ why, x.binding = some (.unbound why)) ∨ (x.binding ≠ none ∧ x.reason ≠ none) →
        exec .stagingHeadDecision s = .next (side reject)) ∧
      (x.binding = some .bound → x.reason = none → x.life ≠ .retired → held →
        exec .stagingHeadDecision s = .next ((side reject).updBook r (fun d =>
          if d.life ≠ .retired ∧ d.reason = none then { d with reason := some .orderHeld } else d))) ∧
      (x.binding = some .early → x.reason = none →
        exec .stagingHeadDecision s = .next (side (.idle (.earlyHold (match w with
          | .earlyHold t => t
          | _ => ⟨s.clock, s.cfg.earlyHold⟩))))) ∧
      (x.binding = some .bound → x.reason = none → ¬ held → s.stg.casing ≠ .empty →
        exec .stagingHeadDecision s = .next (side (.idle .casingBusy))) ∧
      (free → s.stg.cases = [] → exec .stagingHeadDecision s = .next (side caseWait)) ∧
      ∀ h behind, free → s.stg.cases = h :: behind →
        (s.wanted .caseStation h.identity x = .orphan →
          exec .stagingHeadDecision s = .next (side eject)) ∧
        (s.wanted .caseStation h.identity x = .matchesX →
          exec .stagingHeadDecision s = .next { s with stg := { s.stg with
            cases := { h with reserved := true } :: behind
            side := .forwardInFlight ⟨s.clock, s.cfg.releaseTimeout⟩ } }) ∧
        (s.wanted .caseStation h.identity x = .elsewhere →
          (∃ e ∈ behind, s.wanted .caseStation e.identity x = .matchesX) →
          exec .stagingHeadDecision s = .next (side eject)) ∧
        (s.wanted .caseStation h.identity x = .elsewhere →
          (∀ e ∈ behind, s.wanted .caseStation e.identity x ≠ .matchesX) →
          (s.stg.cases.length < 6 → exec .stagingHeadDecision s = .next (side caseWait)) ∧
          (6 ≤ s.stg.cases.length →
            exec .stagingHeadDecision s = .next ((side reject).updBook r (fun d =>
              if d.life ≠ .retired ∧ d.reason = none then { d with reason := some .noCase }
              else d))))

/-- JACKET_STOP_DECISION: the tests of R137 for the record X at the stop, in their order; without a
record WAITING, an active zone C or armed outputs nothing is decided. That the row makes the tests of
its rule is the model's reading (log entry 20). -/
def Obligations.JacketStopDecision : Prop :=
  ∀ s : State,
    (s.active .c = false ∨ s.io.armed = false ∨ (∀ r t, s.dlv.stop ≠ .waiting r t) →
      exec .jacketStopDecision s = .next s) ∧
    ∀ (r : Nat) (timer : Option Timer) (x : Book), s.active .c = true → s.io.armed = true →
      s.dlv.stop = .waiting r timer → s.book? r = some x →
      let stop (v : JacketStop) : State := { s with dlv := { s.dlv with stop := v } }
      let works := x.reason = none ∧ x.tmpl.map (·.jacket) ≠ some .none
      let released (res : Option JacketResult) : Prop :=
        ∃ (t : State) (c : Book), exec .jacketStopDecision s = .next t ∧ Decides s t ∧
          t.dlv.jackets = s.dlv.jackets ∧ t.book? r = some c ∧ c.jacketResult = res ∧
          t.dlv.stop = (if s.table.delivery.length < 6 then
            .releasing r ⟨s.clock, s.cfg.releaseTimeout⟩ else .done r)
      (x.tmpl.map (·.jacket) = some .none → released x.jacketResult) ∧
      (x.reason ≠ none → x.tmpl.map (·.jacket) = some .required → released (some .unjacketed)) ∧
      (works → s.dlv.jackets = [] → exec .jacketStopDecision s = .next (stop (.waiting r (some
        (match timer with | some t => t | none => ⟨s.clock, s.cfg.jacketWait⟩))))) ∧
      ∀ j rest, works → s.dlv.jackets = j :: rest →
        (∀ i, j = .ident i → s.wanted .jacketStation j x = .matchesX →
          exec .jacketStopDecision s = .next ({ s with dlv := { s.dlv with
            jackets := rest
            stop := .inCycle r ⟨s.clock, s.cfg.jacketCycleTimeout⟩ } }.updBook r
              (fun d => { d with marriedJacket := some i }))) ∧
        (s.wanted .jacketStation j x = .orphan → exec .jacketStopDecision s =
          .next (stop (.ejectInFlight r ⟨s.clock, s.cfg.jacketEjectTimeout⟩))) ∧
        (s.wanted .jacketStation j x = .elsewhere → x.tmpl.map (·.jacket) = some .required →
          released (some .unjacketed))

/-- CASING_CYCLE_BEGIN, CASING_RELEASE_COMMAND, JACKET_RELEASE_COMMAND and DRAIN_END: each comes about
when its conditions hold and otherwise changes nothing. That the rows make the tests of their rules is
the model's reading (log entry 20). The back-pressure flag of a zone after the events at which it is
tested, a count, a change of head, of target or of what is downstream, SET CONFIG, a purge and a trip: on
just when downstream is full, the watch point has a head, and the flag was on already or the head has come
within the margin of its target (log entry 21). -/
def Obligations.UnitCommands : Prop :=
  (∀ (s t : State) (c : Instr), exec c s = .next t →
    let full : Belt → Prop := fun
      | .a => 4 ≤ t.stg.queue.length
      | .b => 3 ≤ t.press.queue.length
      | .c => ∃ r, (∃ u, t.dlv.stop = .waiting r u) ∨ (∃ u, t.dlv.stop = .ejectInFlight r u) ∨
          (∃ u, t.dlv.stop = .inCycle r u) ∨ t.dlv.stop = .done r
    let watch : Belt → Watch := fun | .a => .stagingEntry | .b => .pressEntry | .c => .jacket
    let tested (z : Belt) : Prop := (t.belt z).backPressure = true ↔ full z ∧
      ∃ b, t.head? (watch z) = some b ∧ ((s.belt z).backPressure = true ∨
        ∃ target, t.target? (watch z) = some (b, target) ∧
          -(t.cfg.margin.get z : Int) ≤ sdiff (t.belt z).count target)
    (c ∈ [Instr.samplePoint, .spanOverrun, .readWindowClose] ∨
      (∃ w, c = .watchWindowOpen w ∨ c = .headMissing w) ∨ (∃ z, c = .backTravel z) ∨
      (∃ z x y, c = .encoderPhaseChange z x y ∧ ((s.setLevel (phasePoints z).1 x).setLevel
        (phasePoints z).2 y).phaseReading z ≠ (s.belt z).phase) ∨
      (∃ w b target, c = .watchPointArrival w ∧ (s.point (eyePoint (watchEye w))).mode = .input ∧
        s.target? w = some (b, target) ∧ s.inWindow w target = true ∧
        ((w = .stagingEntry ∧ s.stg.queue.length < 4) ∨ w = .casing ∨
          (w = .pressEntry ∧ s.press.queue.length < 3) ∨ (w = .jacket ∧ s.dlv.stop = .empty) ∨
          (w = .outfeed ∧ b.lane ≠ none))) ∨
      (c = .releaseEyeEdge ∧ (s.point 9).mode = .input ∧ ∃ u, s.stg.side = .forwardInFlight u) ∨
      (c = .rejectEyeEdge ∧ (s.point 10).mode = .input ∧ ∃ u, s.stg.side = .rejectInFlight u) ∨
      (c = .gaugeLeadingEdge ∧ t.table.transit ≠ s.table.transit) ∨
      (c = .casingExitEyeEdge ∧ t.table.pressApproach ≠ s.table.pressApproach) ∨
      (c = .jacketExitEyeEdge ∧ t.table.delivery ≠ s.table.delivery) ∨
      (c = .indexDone ∧ (s.point 22).mode = .input ∧ s.press.index ≠ none) ∨
      (c = .unloadEyeEdge ∧ (s.point 14).mode = .input ∧ s.press.awaited ≠ none) ∨
      (c = .unloadGraceExpiry ∧ s.press.awaited ≠ none) ∨
      (c = .guardOpens ∧ (s.point 27).mode = .input ∧ s.io.guardClosed = true) ∨
      (∃ body, c = .setConfig body ∧ t.cfg ≠ s.cfg) ∨
      (∃ body, c = .purge body ∧ t.table.outcomes ≠ s.table.outcomes) →
      ∀ z, tested z) ∧
    (c = .jacketReleaseTimeout → (∃ r u, s.dlv.stop = .releasing r u) → tested .c) ∧
    ((∀ r u, s.dlv.stop ≠ .releasing r u) → (∃ r u, t.dlv.stop = .releasing r u) →
      (t.belt .c).backPressure = false)) ∧
  ∀ (s : State) (r : Nat),
    (s.stg.casing = .cyclePending r → s.active .b = true → s.io.armed = true →
      ∃ t : State, exec .casingCycleBegin s = .next t ∧ Decides s t ∧
        t.stg.casing = .inCycle r ⟨s.clock, s.cfg.casingTimeout⟩ ∧
        t.table.books.length = s.table.books.length ∧
        ∀ e rest, s.stg.cases = e :: rest → e.reserved = true →
          t.stg.cases.map (·.identity) = rest.map (·.identity)) ∧
    ((∀ q, s.stg.casing ≠ .cyclePending q) ∨ s.active .b = false ∨ s.io.armed = false →
      exec .casingCycleBegin s = .next s) ∧
    (s.stg.casing = .cased r → s.active .b = true → s.io.armed = true →
      s.table.pressApproach.length < 4 → exec .casingReleaseCommand s = .next { s with
        stg := { s.stg with casing := .releasing r ⟨s.clock, s.cfg.releaseTimeout⟩ } }) ∧
    ((∀ q, s.stg.casing ≠ .cased q) ∨ s.active .b = false ∨ s.io.armed = false ∨
      4 ≤ s.table.pressApproach.length → exec .casingReleaseCommand s = .next s) ∧
    (s.dlv.stop = .done r → s.active .c = true → s.io.armed = true → s.table.delivery.length < 6 →
      exec .jacketReleaseCommand s = .next { s with
        dlv := { s.dlv with stop := .releasing r ⟨s.clock, s.cfg.releaseTimeout⟩ }
        trk := { s.trk with belts := (s.trk.belts.set .c
          { s.belt .c with backPressure := false }) } }) ∧
    ((∀ q, s.dlv.stop ≠ .done q) ∨ s.active .c = false ∨ s.io.armed = false ∨
      6 ≤ s.table.delivery.length → exec .jacketReleaseCommand s = .next s) ∧
    (∀ z, s.zoneState z = .draining → s.drained z = true →
      ∃ t : State, exec (.drainEnd z) s = .next t ∧ t.zoneState z = .stopped ∧ Decides s t ∧
        ∀ y, y ≠ z → t.zones.get y = s.zones.get y) ∧
    (∀ z, s.zoneState z ≠ .draining ∨ s.drained z = false → exec (.drainEnd z) s = .next s)

/-- INDEX_COMMAND: commanded when every condition of R121 holds, with the load and the unload that R122
and R123 give; when all but the time hold, the clock first comes to the last command time plus P (the
model's reading, log entry 10); when any other fails, nothing is commanded. P is P_min with no dwell in
view, and otherwise the ceiling of the longest over K within P_min and P_max (R119). -/
def Obligations.IndexCommand : Prop :=
  (∀ s : State,
     let ready := s.press.index = none ∧ s.press.awaited = none ∧ s.active .p = true ∧
       s.io.armed = true ∧ ((∃ p r, s.pocket? p = some r) ∨ s.press.queue ≠ [])
     (¬ ready → exec .indexCommand s = .next s) ∧
     (ready → (∀ t, s.press.lastCommand = some t → s.press.period ≤ elapsed s.clock t) →
       ∃ op : IndexOp, exec .indexCommand s = .next { s with press := { s.press with
           index := some op, lastCommand := some s.clock } } ∧
         op.timer = ⟨s.clock, s.cfg.indexTimeout⟩ ∧
         op.station = (s.press.rotation + 24 - s.cfg.reach) % 24 ∧
         (∀ p r, op.unload = some (p, r) ↔ p = op.station ∧ s.pocket? p = some r ∧
           ∃ b d k, s.book? r = some b ∧ b.press = some d ∧ b.tmpl = some k ∧
             k.dwell ≤ elapsed s.clock d.loadTime ∧ s.zoneState .c = .running ∧
             (s.belt .c).backPressure = false ∧ s.table.jacketApproach.length < 6) ∧
         (∀ p r, op.load = some (p, r) ↔ p = s.press.rotation ∧ s.pocket? p = none ∧
           s.press.queue.head? = some r ∧ s.zoneState .p = .running)) ∧
     (ready → ∀ t, s.press.lastCommand = some t → elapsed s.clock t < s.press.period →
       s.press.period < 4294967296 → ∃ u : State, exec .indexCommand s = .next u ∧
         u.clock = t + BitVec.ofNat 32 s.press.period ∧ u.press.index.isSome = true ∧
         u.press.lastCommand = some u.clock ∧
         { u with clock := s.clock, press := s.press } = s)) ∧
  (∀ s : State, 0 < s.cfg.reach →
     let inView (d : Nat) : Prop :=
       (∃ r b k, r ∈ s.press.queue ∧ s.book? r = some b ∧ b.tmpl = some k ∧ k.dwell = d) ∨
       (∃ r b k, some r ∈ s.press.pockets ∧ s.book? r = some b ∧ b.tmpl = some k ∧ k.dwell = d ∧
         ∀ p, b.press = some p → elapsed s.clock p.loadTime < d)
     ((∀ d, ¬ inView d) → s.recomputePeriod.press.period = s.cfg.pMin) ∧
     (∀ d, inView d → (∀ e, inView e → e ≤ d) → s.cfg.pMin ≤ s.cfg.pMax →
       let q := (d + s.cfg.reach - 1) / s.cfg.reach
       s.recomputePeriod.press.period =
         (if q < s.cfg.pMin then s.cfg.pMin else if s.cfg.pMax < q then s.cfg.pMax else q)) ∧
     { s.recomputePeriod with press := s.press } = s)

/-! ### Timers -/

/-- The timeouts of the staging and casing unit: a release or a cycle that is not confirmed is undone or
ended, and its fault is reported for zone B. A clock brought to the expiry is the model's choice (log
entry 10). -/
def Obligations.StagingTimeouts : Prop :=
  ∀ (s : State) (timer : Timer) (r : Nat),
    let now := s.reach timer
    (s.stg.side = .forwardInFlight timer → ∃ t : State, exec .stagingReleaseTimeout s = .next t ∧
      Decides ((now.setSide (.idle .none)).fault .b .stagingJam) t ∧ t.stg.side = .idle .none ∧
      t.stg.cases = (match s.stg.cases with
        | [] => []
        | e :: rest => { e with reserved := false } :: rest)) ∧
    (s.stg.side = .rejectInFlight timer → ∃ t : State, exec .stagingReleaseTimeout s = .next t ∧
      Decides ((now.setSide (.idle .none)).fault .b .stagingJam) t ∧ t.stg.side = .idle .none ∧
      t.stg.cases = s.stg.cases) ∧
    (s.stg.casing = .releasing r timer → exec .casingReleaseTimeout s =
      .next ((now.setCasing (.cased r)).fault .b .stagingJam)) ∧
    (s.stg.side = .ejectInFlight timer → exec .caseEjectTimeout s = .next (({ now with
      stg := { s.stg with side := .idle .none, overdue := true } } : State).fault .b .caseEject)) ∧
    (s.stg.casing = .inCycle r timer → exec .casingTimeout s = .next (((now.updBook r (fun d =>
        if d.life ≠ .retired ∧ d.reason = none then { d with reason := some .casingTimeout }
        else d)).setCasing (.cased r)).fault .b .casingTimeout)) ∧
    (∀ b rest, s.stg.side = .idle (.earlyHold timer) → s.stg.queue = r :: rest →
      s.book? r = some b → b.life ≠ .retired → b.binding = some .early →
      ∃ (t : State) (c : Book), exec .earlyHoldExpiry s = .next t ∧ t.book? r = some c ∧
        c.binding = some (.unbound .noOrder) ∧ c.reason = some (b.reason.getD .noOrder) ∧
        t.stg.side = (if s.zoneState .b = .running then
          .rejectInFlight ⟨now.clock, s.cfg.releaseTimeout⟩ else .idle .none) ∧
        { t with table := s.table, stg := s.stg, clock := s.clock } = s) ∧
    (∀ b rest, s.stg.side = .idle (.caseWait timer) → s.stg.queue = r :: rest →
      s.book? r = some b → b.life ≠ .retired → b.binding = some .bound → b.reason = none →
      ∃ (t : State) (c : Book), exec .caseWaitExpiry s = .next t ∧ t.book? r = some c ∧
        c.reason = some .noCase ∧
        t.stg.side = (if s.zoneState .b = .running then
          .rejectInFlight ⟨now.clock, s.cfg.releaseTimeout⟩ else .idle .none) ∧
        { t with table := s.table, stg := s.stg, clock := s.clock } = s)

/-- The timeouts of the press: an index that is not reported is taken as not made, and an unload that is
not seen within its grace retires its record LOST. Those of the delivery unit: an eject is overdue, a
cycle ends UNJACKETED, a release is taken as never commanded, each with its fault for zone C, and a wait
for a jacket ends UNJACKETED. A clock brought to the expiry is the model's choice (log entry 10). -/
def Obligations.PressAndDeliveryTimeouts : Prop :=
  (∀ (s : State),
     (∀ op, s.press.index = some op → ∃ t : State, exec .indexTimeout s = .next t ∧
       Decides (({ s.reach op.timer with press := { s.press with index := none } } : State).fault .p
         .indexTimeout) t ∧
       t.press = { s.press with index := none } ∧ t.zoneState .p = (if s.zoneState .p = .tripped then
         .tripped else .faulted)) ∧
     (∀ (r : Nat) (timer : Timer) (b : Book), s.press.awaited = some (r, timer) →
       s.book? r = some b → b.life = .toJacket → ∃ (t : State) (c : Book),
         exec .unloadGraceExpiry s = .next t ∧ t.press.awaited = none ∧ t.book? r = some c ∧
         c.life = .retired ∧ c.outcome = some .lost ∧ c.lifeAtRetirement = some .toJacket ∧
         c.retiredAt = some (s.reach timer).clock ∧ r ∉ t.table.jacketApproach ∧
         r ∈ t.table.outcomes ∧ t.zoneState .c = (if s.zoneState .c = .tripped then
           .tripped else .faulted))) ∧
  (∀ (s : State) (timer : Timer) (r : Nat),
     let now := s.reach timer
     let result (t : State) : State := t.updBook r (fun d =>
       { d with jacketResult := some .unjacketed })
     (s.dlv.stop = .ejectInFlight r timer → exec .jacketEjectTimeout s = .next (({ now with
       dlv := { s.dlv with stop := .waiting r none, overdue := true } } : State).fault .c
         .jacketEject)) ∧
     (s.dlv.stop = .inCycle r timer → exec .jacketCycleTimeout s =
       .next (((result now).fault .c .jacketTimeout).setStop (.done r))) ∧
     (s.dlv.stop = .releasing r timer → ∃ t : State, exec .jacketReleaseTimeout s = .next t ∧
       Decides (now.fault .c .jacketJam) t ∧ t.dlv = { s.dlv with stop := .done r }) ∧
     (s.dlv.stop = .waiting r (some timer) → ∃ t : State, exec .jacketWaitExpiry s = .next t ∧
       Decides (result now) t ∧ t.table = (result now).table ∧ t.dlv.jackets = s.dlv.jackets ∧
       t.dlv.stop = (if s.active .c ∧ s.io.armed ∧ s.table.delivery.length < 6 then
         .releasing r ⟨now.clock, s.cfg.releaseTimeout⟩ else .done r)))

/-- SPEED_PERIOD: the speed of each belt is the half-up rounding of |net| × scale × 4 / 1000 with the
sign of the net count, and the next period begins with a net count of 0 and the scale then in force. A
clock brought to the period's end is the model's choice (log entry 10), and the scale of a period in
progress its reading of R76 (log entry 26). -/
def Obligations.SpeedPeriod : Prop :=
  ∀ s : State, ∃ t : State, exec .speedPeriod s = .next t ∧
    (∀ z, t.belt z = { s.belt z with
      speed := (s.belt z).net.sign *
        ((2 * ((s.belt z).net.natAbs * (s.belt z).periodScale * 4) + 1000) / 2000 : Nat)
      net := 0
      periodScale := s.cfg.scale.get z }) ∧
    t.trk.periodStart = s.trk.periodStart + 250#32 ∧
    t.clock = (s.reach ⟨s.trk.periodStart, 250⟩).clock ∧
    { t with clock := s.clock, trk := { t.trk with
      belts := s.trk.belts, periodStart := s.trk.periodStart } } = s

/-! ### Outputs -/

/-- A change of a line whose point is not in INPUT mode is no change of its reading, which stays
inactive: the command leaves nothing behind but the level of the line. That the rows move their lines is
the model's reading (log entry 19). -/
def Obligations.LinesOutOfInputMode : Prop :=
  ∀ s : State,
    (∀ p ∈ [(Instr.gaugeLeadingEdge, 7), (.releaseEyeEdge, 9), (.rejectEyeEdge, 10),
        (.casingExitEyeEdge, 12), (.unloadEyeEdge, 14), (.jacketExitEyeEdge, 16), (.caseFed, 18),
        (.caseEjected, 19), (.casingDone, 20), (.casingFault, 21), (.indexDone, 22), (.jacketFed, 23),
        (.jacketEjected, 24), (.jacketDone, 25), (.jacketFault, 26), (.guardCloses, 27)],
      (s.point p.2).mode ≠ .input →
        exec p.1 s = .next (s.blocked p.2) ∧ (s.blocked p.2).reads p.2 = false) ∧
    (∀ w, (s.point (eyePoint (watchEye w))).mode ≠ .input →
      exec (.watchPointArrival w) s = .next (s.blocked (eyePoint (watchEye w)))) ∧
    ((s.point 7).mode ≠ .input → exec .gaugeTrailingEdge s = .next (s.cleared 7)) ∧
    ((s.point 27).mode ≠ .input → exec .guardOpens s = .next (s.cleared 27))

/-- R155: the motor outputs, and the gating of every actuator output by the guard and the arming, which
ATTENTION alone does not stand under. R95 and R134: the feed permits. And when the other outputs are asked
for: the infeed permit, the gates by the gate setting, and each operation's output while it is in
flight. -/
def Obligations.OutputsAreGated : Prop :=
  (∀ s : State,
     (∀ z : Belt, s.motor z = true ↔
       (s.zoneState (beltZone z) = .running ∨ s.zoneState (beltZone z) = .draining) ∧
         (s.belt z).backPressure = false ∧ s.io.armed = true) ∧
     s.ownerRequest 28 = s.motor .a ∧ s.ownerRequest 29 = s.motor .b ∧
     s.ownerRequest 30 = s.motor .c ∧
     (s.ownerRequest 48 = true ↔
       (s.zoneState .p = .running ∨ s.zoneState .p = .draining) ∧ s.io.armed = true) ∧
     (s.ownerRequest 47 = true ↔ (∃ z, s.zoneState z = .faulted ∨ s.zoneState z = .tripped) ∨
       s.cfg.threshold ≤ s.table.outcomes.length ∨ ∃ o ∈ s.orders, o.unreported = true) ∧
     (∀ n, 28 ≤ n → n ≤ 48 → n ≠ 47 → s.io.guardClosed = false ∨ s.io.armed = false →
       s.driven n = false) ∧
     (∀ n, 28 ≤ n → n ≤ 48 → s.io.guardClosed = true ∧ s.io.armed = true ∨ n = 47 →
       (s.driven n = true ↔ s.ownerRequest n = true ∧
         ((s.point n).mode = .sink ∨ (s.point n).mode = .source)))) ∧
  (∀ s : State,
     (s.ownerRequest 34 = true ↔
       s.stg.cases.length < 6 ∧ s.zoneState .b ≠ .tripped ∧ s.io.armed = true) ∧
     (s.ownerRequest 41 = true ↔
       s.dlv.jackets.length < 6 ∧ s.zoneState .c ≠ .tripped ∧ s.io.armed = true)) ∧
  (∀ s : State,
     (s.ownerRequest 31 = true ↔ s.zoneState .a = .running ∧ (s.belt .a).backPressure = false ∧
       s.cfg.reserve < 96 - s.table.books.length ∧ s.table.transit.length < 8 ∧ s.io.armed = true) ∧
     (s.ownerRequest 45 = true ↔ s.dlv.gate = .inspect) ∧
     (s.ownerRequest 46 = true ↔ s.dlv.gate = .reject) ∧
     (s.ownerRequest 32 = true ↔ ∃ u, s.stg.side = .forwardInFlight u) ∧
     (s.ownerRequest 33 = true ↔ ∃ u, s.stg.side = .rejectInFlight u) ∧
     (s.ownerRequest 35 = true ↔ ∃ u, s.stg.side = .ejectInFlight u) ∧
     (s.ownerRequest 36 = true ↔ ∃ r u, s.stg.casing = .inCycle r u) ∧
     (s.ownerRequest 37 = true ↔ ∃ r u, s.stg.casing = .releasing r u) ∧
     (s.ownerRequest 38 = true ↔ ∃ op, s.press.index = some op) ∧
     (s.ownerRequest 39 = true ↔ ∃ op x, s.press.index = some op ∧ op.load = some x) ∧
     (s.ownerRequest 40 = true ↔ ∃ op x, s.press.index = some op ∧ op.unload = some x) ∧
     (s.ownerRequest 42 = true ↔ ∃ r u, s.dlv.stop = .ejectInFlight r u) ∧
     (s.ownerRequest 43 = true ↔ ∃ r u, s.dlv.stop = .inCycle r u) ∧
     (s.ownerRequest 44 = true ↔ ∃ r u, s.dlv.stop = .releasing r u))

/-! ### Retirement and accounting -/

/-- R46 and R29: a retirement from a state that allows its outcome takes the record out of every
collection, stamps it, appends it to the outcome list and, if it is BOUND, moves its order's counters and
copy; from any other state it is ignored. R30: after a GOOD or INSPECT retirement an OPEN or HELD order
that meets its completion test becomes COMPLETE with its unreported flag on; after any other, and when the
test is not met, its state and flag stay. -/
def Obligations.Retirement : Prop :=
  ∀ (s : State) (r : Nat) (b : Book) (out : BookOutcome), s.book? r = some b →
    (outcomeFrom out b.life = false → s.retire r out = s) ∧
    (outcomeFrom out b.life = true →
      let t := s.retire r out
      t.table.outcomes = s.table.outcomes ++ [r] ∧
      t.book? r = some (b.asRetired out s.clock) ∧
      (∀ q, q ≠ r → t.book? q = s.book? q) ∧
      r ∉ t.table.transit ∧ r ∉ t.stg.queue ∧ t.stg.casing.record? ≠ some r ∧
      r ∉ t.table.pressApproach ∧ r ∉ t.press.queue ∧ some r ∉ t.press.pockets ∧
      r ∉ t.table.jacketApproach ∧ t.dlv.stop.record? ≠ some r ∧ r ∉ t.table.delivery ∧
      (b.binding ≠ some .bound → t.orders = s.orders) ∧
      (∀ i o, b.binding = some .bound → b.ident = some i → s.order? i.order = some o →
        o.counters.good < 4294967295 → o.counters.inspect < 4294967295 →
        o.counters.rejected < 4294967295 → o.counters.lost < 4294967295 →
        o.counters.removed < 4294967295 →
        ∃ p, t.order? i.order = some p ∧ p.counters.inProcess = o.counters.inProcess - 1 ∧
          p.counters.admitted = o.counters.admitted ∧
          p.counters.good = o.counters.good + (if out = .good then 1 else 0) ∧
          p.counters.inspect = o.counters.inspect + (if out = .inspect then 1 else 0) ∧
          p.counters.rejected = o.counters.rejected +
            (if out ≠ .good ∧ out ≠ .inspect ∧ out ≠ .lost ∧ out ≠ .removed then 1 else 0) ∧
          p.counters.lost = o.counters.lost + (if out = .lost then 1 else 0) ∧
          p.counters.removed = o.counters.removed + (if out = .removed then 1 else 0) ∧
          (1 ≤ i.copy → i.copy ≤ o.copyMap.length → p.copyMap[i.copy - 1]? = some
            (if out = .good ∨ out = .inspect then .finished else .rejected)) ∧
          (p.state = .complete → o.state ≠ .complete → p.unreported = true ∧
            (out = .good ∨ out = .inspect)) ∧
          (let met := (out = .good ∨ out = .inspect) ∧ (match o.tmpl.mode with
              | .copyExact => ∀ st ∈ p.copyMap, st = .finished
              | .title => p.counters.good + p.counters.inspect = o.copies);
            (met → o.state = .openOrder ∨ o.state = .held →
              p.state = .complete ∧ p.unreported = true) ∧
            (¬ met ∨ o.state = .complete → p.state = o.state ∧ p.unreported = o.unreported)) ∧
          p.slot = o.slot ∧ p.tmpl = o.tmpl ∧ p.copies = o.copies ∧ p.proofTaken = o.proofTaken ∧
          ∀ k, k ≠ i.order → t.order? k = s.order? k))

/-! ### Invariants that every step keeps -/

/-- Every step keeps the guard, the arming and the zones in agreement: outputs are armed only behind a
closed guard, and a zone is RUNNING or DRAINING only while they are armed. -/
def Obligations.StepsKeepTheGuard : Prop :=
  ∀ s t : State, s.Guarded → step s = .next t → t.Guarded

/-- Every step keeps every collection within its capacity, the ring a ring of 24 pockets, and a reserved
case at the head of its queue. -/
def Obligations.StepsKeepTheCapacities : Prop :=
  ∀ s t : State, s.WithinCapacity → s.ReservedIsHead → step s = .next t →
    t.WithinCapacity ∧ t.ReservedIsHead

/-- Every step keeps the slots accounted for: each record in one slot of 1 to 96, and the outcome list
naming, once each, the slots of the retired records. -/
def Obligations.StepsKeepTheSlots : Prop :=
  ∀ s t : State, s.SlotsAccounted → step s = .next t → t.SlotsAccounted

/-- Every step keeps the configuration within its ranges and constraints, the index period within its
bounds, and the Order Table without two entries of one slot or one number. -/
def Obligations.StepsKeepTheTables : Prop :=
  ∀ s t : State, s.Configured → s.OrdersDistinct → step s = .next t →
    t.Configured ∧ t.OrdersDistinct
end

