-- ==== Sys2Proof/Laws/Bytes.lean ====
section
/-! SUPPORT. Numbers in bodies and the sums of frames: a number sent in its bytes is read back, a body is
cut into the numbers it was made of, and a frame's bytes sum to 0. -/

namespace Sys2Proof.Machine

@[simp] theorem length_beBytes (w n : Nat) : (beBytes w n).length = w := by
  induction w generalizing n with
  | zero => rfl
  | succ w ih => simp [beBytes, ih]

theorem readBE_append (l m : List Byte) :
    readBE (l ++ m) = m.foldl (fun n b => 256 * n + b.toNat) (readBE l) := by
  simp [readBE, List.foldl_append]

/-- A number sent in enough bytes is read back. -/
theorem readBE_beBytes (w n : Nat) (h : n < 256 ^ w) : readBE (beBytes w n) = n := by
  induction w generalizing n with
  | zero =>
    have : n = 0 := by simpa using h
    subst this
    rfl
  | succ w ih =>
    have hq : n / 256 < 256 ^ w := by
      rw [Nat.div_lt_iff_lt_mul (by decide)]
      simpa [Nat.pow_succ] using h
    rw [beBytes, readBE_append, ih _ hq]
    simp only [List.foldl_cons, List.foldl_nil, BitVec.toNat_ofNat]
    omega

/-- A body made of numbers in their bytes is cut into those numbers. -/
theorem splitFields_beBytes (l : List (Nat × Nat)) (h : ∀ p ∈ l, p.2 < 256 ^ p.1) :
    splitFields (l.map (·.1)) (l.flatMap (fun p => beBytes p.1 p.2)) = some (l.map (·.2)) := by
  induction l with
  | nil => rfl
  | cons p l ih =>
    have hp := readBE_beBytes p.1 p.2 (h p (by simp))
    have ht := ih (fun q hq => h q (by simp [hq]))
    simp only [List.map_cons, List.flatMap_cons, splitFields]
    rw [if_neg (by simp)]
    have h1 : (beBytes p.1 p.2 ++ l.flatMap (fun p => beBytes p.1 p.2)).take p.1 = beBytes p.1 p.2 := by
      simp
    have h2 : (beBytes p.1 p.2 ++ l.flatMap (fun p => beBytes p.1 p.2)).drop p.1 =
        l.flatMap (fun p => beBytes p.1 p.2) := by
      simp
    rw [h1, h2, ht, hp]
    rfl

/-- A body whose length is not that of a layout is not cut. -/
theorem splitFields_length (ws : List Nat) (bs : List Byte) (vs : List Nat)
    (h : splitFields ws bs = some vs) : bs.length = ws.sum := by
  induction ws generalizing bs vs with
  | nil =>
    cases bs with
    | nil => rfl
    | cons b bs => simp [splitFields] at h
  | cons w ws ih =>
    simp only [splitFields] at h
    split at h
    · simp at h
    · rename_i hw
      cases hr : splitFields ws (bs.drop w) with
      | none => simp [hr] at h
      | some us =>
        have := ih _ _ hr
        simp only [List.length_drop] at this
        simp only [List.sum_cons]
        omega

theorem foldl_add_byte (l : List Byte) (a : Byte) : l.foldl (· + ·) a = a + byteSum l := by
  unfold byteSum
  induction l generalizing a with
  | nil => simp
  | cons b l ih =>
    simp only [List.foldl_cons]
    rw [ih, ih (0#8 + b)]
    simp [BitVec.add_assoc]

theorem byteSum_cons (b : Byte) (l : List Byte) : byteSum (b :: l) = b + byteSum l := by
  have h := foldl_add_byte l (0#8 + b)
  simpa [byteSum] using h

theorem byteSum_append (l m : List Byte) : byteSum (l ++ m) = byteSum l + byteSum m := by
  induction l with
  | nil => simp [byteSum]
  | cons b l ih => simp [byteSum_cons, ih, BitVec.add_assoc]

/-- The bytes of a frame after its start byte sum to 0. -/
theorem byteSum_check (l : List Byte) : byteSum (l ++ [checkByte l]) = 0#8 := by
  rw [byteSum_append, byteSum_cons]
  simp [checkByte, byteSum]

/-- A body all of whose bytes are given is filled with them. -/
theorem fillBody_some (draw : Nat) (l : List Byte) : fillBody draw (l.map some) = l := by
  apply List.ext_getElem
  · simp [fillBody]
  · intro i h1 h2
    simp [fillBody]

end Sys2Proof.Machine
end

