-- ==== Sys2Proof/Laws/State.lean ====
section
/-! SUPPORT. What each update of the state leaves as it was: one lemma for each field of each update, true
by unfolding. -/

namespace Sys2Proof.Machine

@[simp] theorem State.updBook_pending (s : State) (r : Nat) (f : Book → Book) :
    (s.updBook r f).pending = s.pending := rfl
@[simp] theorem State.updBook_clock (s : State) (r : Nat) (f : Book → Book) :
    (s.updBook r f).clock = s.clock := rfl
@[simp] theorem State.updBook_cause (s : State) (r : Nat) (f : Book → Book) :
    (s.updBook r f).cause = s.cause := rfl
@[simp] theorem State.updBook_cfg (s : State) (r : Nat) (f : Book → Book) :
    (s.updBook r f).cfg = s.cfg := rfl
@[simp] theorem State.updBook_link (s : State) (r : Nat) (f : Book → Book) :
    (s.updBook r f).link = s.link := rfl
@[simp] theorem State.updBook_readers (s : State) (r : Nat) (f : Book → Book) :
    (s.updBook r f).readers = s.readers := rfl
@[simp] theorem State.updBook_admitSet (s : State) (r : Nat) (f : Book → Book) :
    (s.updBook r f).admitSet = s.admitSet := rfl
@[simp] theorem State.updBook_orders (s : State) (r : Nat) (f : Book → Book) :
    (s.updBook r f).orders = s.orders := rfl
@[simp] theorem State.updBook_table_nextSeq (s : State) (r : Nat) (f : Book → Book) :
    (s.updBook r f).table.nextSeq = s.table.nextSeq := rfl
@[simp] theorem State.updBook_table_lastLead (s : State) (r : Nat) (f : Book → Book) :
    (s.updBook r f).table.lastLead = s.table.lastLead := rfl
@[simp] theorem State.updBook_table_outcomes (s : State) (r : Nat) (f : Book → Book) :
    (s.updBook r f).table.outcomes = s.table.outcomes := rfl
@[simp] theorem State.updBook_table_transit (s : State) (r : Nat) (f : Book → Book) :
    (s.updBook r f).table.transit = s.table.transit := rfl
@[simp] theorem State.updBook_table_pressApproach (s : State) (r : Nat) (f : Book → Book) :
    (s.updBook r f).table.pressApproach = s.table.pressApproach := rfl
@[simp] theorem State.updBook_table_jacketApproach (s : State) (r : Nat) (f : Book → Book) :
    (s.updBook r f).table.jacketApproach = s.table.jacketApproach := rfl
@[simp] theorem State.updBook_table_delivery (s : State) (r : Nat) (f : Book → Book) :
    (s.updBook r f).table.delivery = s.table.delivery := rfl
@[simp] theorem State.updBook_trk (s : State) (r : Nat) (f : Book → Book) :
    (s.updBook r f).trk = s.trk := rfl
@[simp] theorem State.updBook_gauge (s : State) (r : Nat) (f : Book → Book) :
    (s.updBook r f).gauge = s.gauge := rfl
@[simp] theorem State.updBook_stg (s : State) (r : Nat) (f : Book → Book) :
    (s.updBook r f).stg = s.stg := rfl
@[simp] theorem State.updBook_press (s : State) (r : Nat) (f : Book → Book) :
    (s.updBook r f).press = s.press := rfl
@[simp] theorem State.updBook_dlv (s : State) (r : Nat) (f : Book → Book) :
    (s.updBook r f).dlv = s.dlv := rfl
@[simp] theorem State.updBook_zones (s : State) (r : Nat) (f : Book → Book) :
    (s.updBook r f).zones = s.zones := rfl
@[simp] theorem State.updBook_io (s : State) (r : Nat) (f : Book → Book) :
    (s.updBook r f).io = s.io := rfl

@[simp] theorem State.setReason_pending (s : State) (r : Nat) (why : Reason) :
    (s.setReason r why).pending = s.pending := rfl
@[simp] theorem State.setReason_clock (s : State) (r : Nat) (why : Reason) :
    (s.setReason r why).clock = s.clock := rfl
@[simp] theorem State.setReason_cause (s : State) (r : Nat) (why : Reason) :
    (s.setReason r why).cause = s.cause := rfl
@[simp] theorem State.setReason_cfg (s : State) (r : Nat) (why : Reason) :
    (s.setReason r why).cfg = s.cfg := rfl
@[simp] theorem State.setReason_link (s : State) (r : Nat) (why : Reason) :
    (s.setReason r why).link = s.link := rfl
@[simp] theorem State.setReason_readers (s : State) (r : Nat) (why : Reason) :
    (s.setReason r why).readers = s.readers := rfl
@[simp] theorem State.setReason_admitSet (s : State) (r : Nat) (why : Reason) :
    (s.setReason r why).admitSet = s.admitSet := rfl
@[simp] theorem State.setReason_orders (s : State) (r : Nat) (why : Reason) :
    (s.setReason r why).orders = s.orders := rfl
@[simp] theorem State.setReason_table_nextSeq (s : State) (r : Nat) (why : Reason) :
    (s.setReason r why).table.nextSeq = s.table.nextSeq := rfl
@[simp] theorem State.setReason_table_lastLead (s : State) (r : Nat) (why : Reason) :
    (s.setReason r why).table.lastLead = s.table.lastLead := rfl
@[simp] theorem State.setReason_table_outcomes (s : State) (r : Nat) (why : Reason) :
    (s.setReason r why).table.outcomes = s.table.outcomes := rfl
@[simp] theorem State.setReason_table_transit (s : State) (r : Nat) (why : Reason) :
    (s.setReason r why).table.transit = s.table.transit := rfl
@[simp] theorem State.setReason_table_pressApproach (s : State) (r : Nat) (why : Reason) :
    (s.setReason r why).table.pressApproach = s.table.pressApproach := rfl
@[simp] theorem State.setReason_table_jacketApproach (s : State) (r : Nat) (why : Reason) :
    (s.setReason r why).table.jacketApproach = s.table.jacketApproach := rfl
@[simp] theorem State.setReason_table_delivery (s : State) (r : Nat) (why : Reason) :
    (s.setReason r why).table.delivery = s.table.delivery := rfl
@[simp] theorem State.setReason_trk (s : State) (r : Nat) (why : Reason) :
    (s.setReason r why).trk = s.trk := rfl
@[simp] theorem State.setReason_gauge (s : State) (r : Nat) (why : Reason) :
    (s.setReason r why).gauge = s.gauge := rfl
@[simp] theorem State.setReason_stg (s : State) (r : Nat) (why : Reason) :
    (s.setReason r why).stg = s.stg := rfl
@[simp] theorem State.setReason_press (s : State) (r : Nat) (why : Reason) :
    (s.setReason r why).press = s.press := rfl
@[simp] theorem State.setReason_dlv (s : State) (r : Nat) (why : Reason) :
    (s.setReason r why).dlv = s.dlv := rfl
@[simp] theorem State.setReason_zones (s : State) (r : Nat) (why : Reason) :
    (s.setReason r why).zones = s.zones := rfl
@[simp] theorem State.setReason_io (s : State) (r : Nat) (why : Reason) :
    (s.setReason r why).io = s.io := rfl

@[simp] theorem State.unbind_pending (s : State) (r : Nat) (why : Reason) :
    (s.unbind r why).pending = s.pending := rfl
@[simp] theorem State.unbind_clock (s : State) (r : Nat) (why : Reason) :
    (s.unbind r why).clock = s.clock := rfl
@[simp] theorem State.unbind_cause (s : State) (r : Nat) (why : Reason) :
    (s.unbind r why).cause = s.cause := rfl
@[simp] theorem State.unbind_cfg (s : State) (r : Nat) (why : Reason) :
    (s.unbind r why).cfg = s.cfg := rfl
@[simp] theorem State.unbind_link (s : State) (r : Nat) (why : Reason) :
    (s.unbind r why).link = s.link := rfl
@[simp] theorem State.unbind_readers (s : State) (r : Nat) (why : Reason) :
    (s.unbind r why).readers = s.readers := rfl
@[simp] theorem State.unbind_admitSet (s : State) (r : Nat) (why : Reason) :
    (s.unbind r why).admitSet = s.admitSet := rfl
@[simp] theorem State.unbind_orders (s : State) (r : Nat) (why : Reason) :
    (s.unbind r why).orders = s.orders := rfl
@[simp] theorem State.unbind_table_nextSeq (s : State) (r : Nat) (why : Reason) :
    (s.unbind r why).table.nextSeq = s.table.nextSeq := rfl
@[simp] theorem State.unbind_table_lastLead (s : State) (r : Nat) (why : Reason) :
    (s.unbind r why).table.lastLead = s.table.lastLead := rfl
@[simp] theorem State.unbind_table_outcomes (s : State) (r : Nat) (why : Reason) :
    (s.unbind r why).table.outcomes = s.table.outcomes := rfl
@[simp] theorem State.unbind_table_transit (s : State) (r : Nat) (why : Reason) :
    (s.unbind r why).table.transit = s.table.transit := rfl
@[simp] theorem State.unbind_table_pressApproach (s : State) (r : Nat) (why : Reason) :
    (s.unbind r why).table.pressApproach = s.table.pressApproach := rfl
@[simp] theorem State.unbind_table_jacketApproach (s : State) (r : Nat) (why : Reason) :
    (s.unbind r why).table.jacketApproach = s.table.jacketApproach := rfl
@[simp] theorem State.unbind_table_delivery (s : State) (r : Nat) (why : Reason) :
    (s.unbind r why).table.delivery = s.table.delivery := rfl
@[simp] theorem State.unbind_trk (s : State) (r : Nat) (why : Reason) :
    (s.unbind r why).trk = s.trk := rfl
@[simp] theorem State.unbind_gauge (s : State) (r : Nat) (why : Reason) :
    (s.unbind r why).gauge = s.gauge := rfl
@[simp] theorem State.unbind_stg (s : State) (r : Nat) (why : Reason) :
    (s.unbind r why).stg = s.stg := rfl
@[simp] theorem State.unbind_press (s : State) (r : Nat) (why : Reason) :
    (s.unbind r why).press = s.press := rfl
@[simp] theorem State.unbind_dlv (s : State) (r : Nat) (why : Reason) :
    (s.unbind r why).dlv = s.dlv := rfl
@[simp] theorem State.unbind_zones (s : State) (r : Nat) (why : Reason) :
    (s.unbind r why).zones = s.zones := rfl
@[simp] theorem State.unbind_io (s : State) (r : Nat) (why : Reason) :
    (s.unbind r why).io = s.io := rfl

@[simp] theorem State.setJacketResult_pending (s : State) (r : Nat) (res : JacketResult) :
    (s.setJacketResult r res).pending = s.pending := rfl
@[simp] theorem State.setJacketResult_clock (s : State) (r : Nat) (res : JacketResult) :
    (s.setJacketResult r res).clock = s.clock := rfl
@[simp] theorem State.setJacketResult_cause (s : State) (r : Nat) (res : JacketResult) :
    (s.setJacketResult r res).cause = s.cause := rfl
@[simp] theorem State.setJacketResult_cfg (s : State) (r : Nat) (res : JacketResult) :
    (s.setJacketResult r res).cfg = s.cfg := rfl
@[simp] theorem State.setJacketResult_link (s : State) (r : Nat) (res : JacketResult) :
    (s.setJacketResult r res).link = s.link := rfl
@[simp] theorem State.setJacketResult_readers (s : State) (r : Nat) (res : JacketResult) :
    (s.setJacketResult r res).readers = s.readers := rfl
@[simp] theorem State.setJacketResult_admitSet (s : State) (r : Nat) (res : JacketResult) :
    (s.setJacketResult r res).admitSet = s.admitSet := rfl
@[simp] theorem State.setJacketResult_orders (s : State) (r : Nat) (res : JacketResult) :
    (s.setJacketResult r res).orders = s.orders := rfl
@[simp] theorem State.setJacketResult_table_nextSeq (s : State) (r : Nat) (res : JacketResult) :
    (s.setJacketResult r res).table.nextSeq = s.table.nextSeq := rfl
@[simp] theorem State.setJacketResult_table_lastLead (s : State) (r : Nat) (res : JacketResult) :
    (s.setJacketResult r res).table.lastLead = s.table.lastLead := rfl
@[simp] theorem State.setJacketResult_table_outcomes (s : State) (r : Nat) (res : JacketResult) :
    (s.setJacketResult r res).table.outcomes = s.table.outcomes := rfl
@[simp] theorem State.setJacketResult_table_transit (s : State) (r : Nat) (res : JacketResult) :
    (s.setJacketResult r res).table.transit = s.table.transit := rfl
@[simp] theorem State.setJacketResult_table_pressApproach (s : State) (r : Nat) (res : JacketResult) :
    (s.setJacketResult r res).table.pressApproach = s.table.pressApproach := rfl
@[simp] theorem State.setJacketResult_table_jacketApproach (s : State) (r : Nat) (res : JacketResult) :
    (s.setJacketResult r res).table.jacketApproach = s.table.jacketApproach := rfl
@[simp] theorem State.setJacketResult_table_delivery (s : State) (r : Nat) (res : JacketResult) :
    (s.setJacketResult r res).table.delivery = s.table.delivery := rfl
@[simp] theorem State.setJacketResult_trk (s : State) (r : Nat) (res : JacketResult) :
    (s.setJacketResult r res).trk = s.trk := rfl
@[simp] theorem State.setJacketResult_gauge (s : State) (r : Nat) (res : JacketResult) :
    (s.setJacketResult r res).gauge = s.gauge := rfl
@[simp] theorem State.setJacketResult_stg (s : State) (r : Nat) (res : JacketResult) :
    (s.setJacketResult r res).stg = s.stg := rfl
@[simp] theorem State.setJacketResult_press (s : State) (r : Nat) (res : JacketResult) :
    (s.setJacketResult r res).press = s.press := rfl
@[simp] theorem State.setJacketResult_dlv (s : State) (r : Nat) (res : JacketResult) :
    (s.setJacketResult r res).dlv = s.dlv := rfl
@[simp] theorem State.setJacketResult_zones (s : State) (r : Nat) (res : JacketResult) :
    (s.setJacketResult r res).zones = s.zones := rfl
@[simp] theorem State.setJacketResult_io (s : State) (r : Nat) (res : JacketResult) :
    (s.setJacketResult r res).io = s.io := rfl

@[simp] theorem State.updOrder_pending (s : State) (n : Nat) (f : Order → Order) :
    (s.updOrder n f).pending = s.pending := rfl
@[simp] theorem State.updOrder_clock (s : State) (n : Nat) (f : Order → Order) :
    (s.updOrder n f).clock = s.clock := rfl
@[simp] theorem State.updOrder_cause (s : State) (n : Nat) (f : Order → Order) :
    (s.updOrder n f).cause = s.cause := rfl
@[simp] theorem State.updOrder_cfg (s : State) (n : Nat) (f : Order → Order) :
    (s.updOrder n f).cfg = s.cfg := rfl
@[simp] theorem State.updOrder_link (s : State) (n : Nat) (f : Order → Order) :
    (s.updOrder n f).link = s.link := rfl
@[simp] theorem State.updOrder_readers (s : State) (n : Nat) (f : Order → Order) :
    (s.updOrder n f).readers = s.readers := rfl
@[simp] theorem State.updOrder_admitSet (s : State) (n : Nat) (f : Order → Order) :
    (s.updOrder n f).admitSet = s.admitSet := rfl
@[simp] theorem State.updOrder_table (s : State) (n : Nat) (f : Order → Order) :
    (s.updOrder n f).table = s.table := rfl
@[simp] theorem State.updOrder_trk (s : State) (n : Nat) (f : Order → Order) :
    (s.updOrder n f).trk = s.trk := rfl
@[simp] theorem State.updOrder_gauge (s : State) (n : Nat) (f : Order → Order) :
    (s.updOrder n f).gauge = s.gauge := rfl
@[simp] theorem State.updOrder_stg (s : State) (n : Nat) (f : Order → Order) :
    (s.updOrder n f).stg = s.stg := rfl
@[simp] theorem State.updOrder_press (s : State) (n : Nat) (f : Order → Order) :
    (s.updOrder n f).press = s.press := rfl
@[simp] theorem State.updOrder_dlv (s : State) (n : Nat) (f : Order → Order) :
    (s.updOrder n f).dlv = s.dlv := rfl
@[simp] theorem State.updOrder_zones (s : State) (n : Nat) (f : Order → Order) :
    (s.updOrder n f).zones = s.zones := rfl
@[simp] theorem State.updOrder_io (s : State) (n : Nat) (f : Order → Order) :
    (s.updOrder n f).io = s.io := rfl

@[simp] theorem State.setSide_pending (s : State) (x : StagingSide) :
    (s.setSide x).pending = s.pending := rfl
@[simp] theorem State.setSide_clock (s : State) (x : StagingSide) :
    (s.setSide x).clock = s.clock := rfl
@[simp] theorem State.setSide_cause (s : State) (x : StagingSide) :
    (s.setSide x).cause = s.cause := rfl
@[simp] theorem State.setSide_cfg (s : State) (x : StagingSide) : (s.setSide x).cfg = s.cfg := rfl
@[simp] theorem State.setSide_link (s : State) (x : StagingSide) :
    (s.setSide x).link = s.link := rfl
@[simp] theorem State.setSide_readers (s : State) (x : StagingSide) :
    (s.setSide x).readers = s.readers := rfl
@[simp] theorem State.setSide_admitSet (s : State) (x : StagingSide) :
    (s.setSide x).admitSet = s.admitSet := rfl
@[simp] theorem State.setSide_orders (s : State) (x : StagingSide) :
    (s.setSide x).orders = s.orders := rfl
@[simp] theorem State.setSide_table (s : State) (x : StagingSide) :
    (s.setSide x).table = s.table := rfl
@[simp] theorem State.setSide_trk (s : State) (x : StagingSide) : (s.setSide x).trk = s.trk := rfl
@[simp] theorem State.setSide_gauge (s : State) (x : StagingSide) :
    (s.setSide x).gauge = s.gauge := rfl
@[simp] theorem State.setSide_stg_queue (s : State) (x : StagingSide) :
    (s.setSide x).stg.queue = s.stg.queue := rfl
@[simp] theorem State.setSide_stg_cases (s : State) (x : StagingSide) :
    (s.setSide x).stg.cases = s.stg.cases := rfl
@[simp] theorem State.setSide_stg_casing (s : State) (x : StagingSide) :
    (s.setSide x).stg.casing = s.stg.casing := rfl
@[simp] theorem State.setSide_stg_overdue (s : State) (x : StagingSide) :
    (s.setSide x).stg.overdue = s.stg.overdue := rfl
@[simp] theorem State.setSide_press (s : State) (x : StagingSide) :
    (s.setSide x).press = s.press := rfl
@[simp] theorem State.setSide_dlv (s : State) (x : StagingSide) : (s.setSide x).dlv = s.dlv := rfl
@[simp] theorem State.setSide_zones (s : State) (x : StagingSide) :
    (s.setSide x).zones = s.zones := rfl
@[simp] theorem State.setSide_io (s : State) (x : StagingSide) : (s.setSide x).io = s.io := rfl

@[simp] theorem State.setCasing_pending (s : State) (x : CasingSide) :
    (s.setCasing x).pending = s.pending := rfl
@[simp] theorem State.setCasing_clock (s : State) (x : CasingSide) :
    (s.setCasing x).clock = s.clock := rfl
@[simp] theorem State.setCasing_cause (s : State) (x : CasingSide) :
    (s.setCasing x).cause = s.cause := rfl
@[simp] theorem State.setCasing_cfg (s : State) (x : CasingSide) :
    (s.setCasing x).cfg = s.cfg := rfl
@[simp] theorem State.setCasing_link (s : State) (x : CasingSide) :
    (s.setCasing x).link = s.link := rfl
@[simp] theorem State.setCasing_readers (s : State) (x : CasingSide) :
    (s.setCasing x).readers = s.readers := rfl
@[simp] theorem State.setCasing_admitSet (s : State) (x : CasingSide) :
    (s.setCasing x).admitSet = s.admitSet := rfl
@[simp] theorem State.setCasing_orders (s : State) (x : CasingSide) :
    (s.setCasing x).orders = s.orders := rfl
@[simp] theorem State.setCasing_table (s : State) (x : CasingSide) :
    (s.setCasing x).table = s.table := rfl
@[simp] theorem State.setCasing_trk (s : State) (x : CasingSide) :
    (s.setCasing x).trk = s.trk := rfl
@[simp] theorem State.setCasing_gauge (s : State) (x : CasingSide) :
    (s.setCasing x).gauge = s.gauge := rfl
@[simp] theorem State.setCasing_stg_queue (s : State) (x : CasingSide) :
    (s.setCasing x).stg.queue = s.stg.queue := rfl
@[simp] theorem State.setCasing_stg_cases (s : State) (x : CasingSide) :
    (s.setCasing x).stg.cases = s.stg.cases := rfl
@[simp] theorem State.setCasing_stg_side (s : State) (x : CasingSide) :
    (s.setCasing x).stg.side = s.stg.side := rfl
@[simp] theorem State.setCasing_stg_overdue (s : State) (x : CasingSide) :
    (s.setCasing x).stg.overdue = s.stg.overdue := rfl
@[simp] theorem State.setCasing_press (s : State) (x : CasingSide) :
    (s.setCasing x).press = s.press := rfl
@[simp] theorem State.setCasing_dlv (s : State) (x : CasingSide) :
    (s.setCasing x).dlv = s.dlv := rfl
@[simp] theorem State.setCasing_zones (s : State) (x : CasingSide) :
    (s.setCasing x).zones = s.zones := rfl
@[simp] theorem State.setCasing_io (s : State) (x : CasingSide) : (s.setCasing x).io = s.io := rfl

@[simp] theorem State.unreserve_pending (s : State) : (s.unreserve).pending = s.pending := rfl
@[simp] theorem State.unreserve_clock (s : State) : (s.unreserve).clock = s.clock := rfl
@[simp] theorem State.unreserve_cause (s : State) : (s.unreserve).cause = s.cause := rfl
@[simp] theorem State.unreserve_cfg (s : State) : (s.unreserve).cfg = s.cfg := rfl
@[simp] theorem State.unreserve_link (s : State) : (s.unreserve).link = s.link := rfl
@[simp] theorem State.unreserve_readers (s : State) : (s.unreserve).readers = s.readers := rfl
@[simp] theorem State.unreserve_admitSet (s : State) : (s.unreserve).admitSet = s.admitSet := rfl
@[simp] theorem State.unreserve_orders (s : State) : (s.unreserve).orders = s.orders := rfl
@[simp] theorem State.unreserve_table (s : State) : (s.unreserve).table = s.table := rfl
@[simp] theorem State.unreserve_trk (s : State) : (s.unreserve).trk = s.trk := rfl
@[simp] theorem State.unreserve_gauge (s : State) : (s.unreserve).gauge = s.gauge := rfl
@[simp] theorem State.unreserve_stg_queue (s : State) :
    (s.unreserve).stg.queue = s.stg.queue := rfl
@[simp] theorem State.unreserve_stg_side (s : State) :
    (s.unreserve).stg.side = s.stg.side := rfl
@[simp] theorem State.unreserve_stg_casing (s : State) :
    (s.unreserve).stg.casing = s.stg.casing := rfl
@[simp] theorem State.unreserve_stg_overdue (s : State) :
    (s.unreserve).stg.overdue = s.stg.overdue := rfl
@[simp] theorem State.unreserve_press (s : State) : (s.unreserve).press = s.press := rfl
@[simp] theorem State.unreserve_dlv (s : State) : (s.unreserve).dlv = s.dlv := rfl
@[simp] theorem State.unreserve_zones (s : State) : (s.unreserve).zones = s.zones := rfl
@[simp] theorem State.unreserve_io (s : State) : (s.unreserve).io = s.io := rfl

@[simp] theorem State.commandForward_pending (s : State) :
    (s.commandForward).pending = s.pending := rfl
@[simp] theorem State.commandForward_clock (s : State) : (s.commandForward).clock = s.clock := rfl
@[simp] theorem State.commandForward_cause (s : State) : (s.commandForward).cause = s.cause := rfl
@[simp] theorem State.commandForward_cfg (s : State) : (s.commandForward).cfg = s.cfg := rfl
@[simp] theorem State.commandForward_link (s : State) : (s.commandForward).link = s.link := rfl
@[simp] theorem State.commandForward_readers (s : State) :
    (s.commandForward).readers = s.readers := rfl
@[simp] theorem State.commandForward_admitSet (s : State) : (s.commandForward).admitSet = s.admitSet := rfl
@[simp] theorem State.commandForward_orders (s : State) :
    (s.commandForward).orders = s.orders := rfl
@[simp] theorem State.commandForward_table (s : State) : (s.commandForward).table = s.table := rfl
@[simp] theorem State.commandForward_trk (s : State) : (s.commandForward).trk = s.trk := rfl
@[simp] theorem State.commandForward_gauge (s : State) : (s.commandForward).gauge = s.gauge := rfl
@[simp] theorem State.commandForward_stg_queue (s : State) :
    (s.commandForward).stg.queue = s.stg.queue := rfl
@[simp] theorem State.commandForward_stg_casing (s : State) :
    (s.commandForward).stg.casing = s.stg.casing := rfl
@[simp] theorem State.commandForward_stg_overdue (s : State) :
    (s.commandForward).stg.overdue = s.stg.overdue := rfl
@[simp] theorem State.commandForward_press (s : State) : (s.commandForward).press = s.press := rfl
@[simp] theorem State.commandForward_dlv (s : State) : (s.commandForward).dlv = s.dlv := rfl
@[simp] theorem State.commandForward_zones (s : State) : (s.commandForward).zones = s.zones := rfl
@[simp] theorem State.commandForward_io (s : State) : (s.commandForward).io = s.io := rfl

@[simp] theorem State.setStop_pending (s : State) (x : JacketStop) :
    (s.setStop x).pending = s.pending := rfl
@[simp] theorem State.setStop_clock (s : State) (x : JacketStop) :
    (s.setStop x).clock = s.clock := rfl
@[simp] theorem State.setStop_cause (s : State) (x : JacketStop) :
    (s.setStop x).cause = s.cause := rfl
@[simp] theorem State.setStop_cfg (s : State) (x : JacketStop) : (s.setStop x).cfg = s.cfg := rfl
@[simp] theorem State.setStop_link (s : State) (x : JacketStop) : (s.setStop x).link = s.link := rfl
@[simp] theorem State.setStop_readers (s : State) (x : JacketStop) :
    (s.setStop x).readers = s.readers := rfl
@[simp] theorem State.setStop_admitSet (s : State) (x : JacketStop) :
    (s.setStop x).admitSet = s.admitSet := rfl
@[simp] theorem State.setStop_orders (s : State) (x : JacketStop) :
    (s.setStop x).orders = s.orders := rfl
@[simp] theorem State.setStop_table (s : State) (x : JacketStop) :
    (s.setStop x).table = s.table := rfl
@[simp] theorem State.setStop_trk (s : State) (x : JacketStop) : (s.setStop x).trk = s.trk := rfl
@[simp] theorem State.setStop_gauge (s : State) (x : JacketStop) :
    (s.setStop x).gauge = s.gauge := rfl
@[simp] theorem State.setStop_stg (s : State) (x : JacketStop) : (s.setStop x).stg = s.stg := rfl
@[simp] theorem State.setStop_press (s : State) (x : JacketStop) :
    (s.setStop x).press = s.press := rfl
@[simp] theorem State.setStop_dlv_jackets (s : State) (x : JacketStop) :
    (s.setStop x).dlv.jackets = s.dlv.jackets := rfl
@[simp] theorem State.setStop_dlv_overdue (s : State) (x : JacketStop) :
    (s.setStop x).dlv.overdue = s.dlv.overdue := rfl
@[simp] theorem State.setStop_dlv_gate (s : State) (x : JacketStop) :
    (s.setStop x).dlv.gate = s.dlv.gate := rfl
@[simp] theorem State.setStop_zones (s : State) (x : JacketStop) :
    (s.setStop x).zones = s.zones := rfl
@[simp] theorem State.setStop_io (s : State) (x : JacketStop) : (s.setStop x).io = s.io := rfl

@[simp] theorem State.setPocket_pending (s : State) (p : Nat) (v : Option Nat) :
    (s.setPocket p v).pending = s.pending := rfl
@[simp] theorem State.setPocket_clock (s : State) (p : Nat) (v : Option Nat) :
    (s.setPocket p v).clock = s.clock := rfl
@[simp] theorem State.setPocket_cause (s : State) (p : Nat) (v : Option Nat) :
    (s.setPocket p v).cause = s.cause := rfl
@[simp] theorem State.setPocket_cfg (s : State) (p : Nat) (v : Option Nat) :
    (s.setPocket p v).cfg = s.cfg := rfl
@[simp] theorem State.setPocket_link (s : State) (p : Nat) (v : Option Nat) :
    (s.setPocket p v).link = s.link := rfl
@[simp] theorem State.setPocket_readers (s : State) (p : Nat) (v : Option Nat) :
    (s.setPocket p v).readers = s.readers := rfl
@[simp] theorem State.setPocket_admitSet (s : State) (p : Nat) (v : Option Nat) :
    (s.setPocket p v).admitSet = s.admitSet := rfl
@[simp] theorem State.setPocket_orders (s : State) (p : Nat) (v : Option Nat) :
    (s.setPocket p v).orders = s.orders := rfl
@[simp] theorem State.setPocket_table (s : State) (p : Nat) (v : Option Nat) :
    (s.setPocket p v).table = s.table := rfl
@[simp] theorem State.setPocket_trk (s : State) (p : Nat) (v : Option Nat) :
    (s.setPocket p v).trk = s.trk := rfl
@[simp] theorem State.setPocket_gauge (s : State) (p : Nat) (v : Option Nat) :
    (s.setPocket p v).gauge = s.gauge := rfl
@[simp] theorem State.setPocket_stg (s : State) (p : Nat) (v : Option Nat) :
    (s.setPocket p v).stg = s.stg := rfl
@[simp] theorem State.setPocket_press_rotation (s : State) (p : Nat) (v : Option Nat) :
    (s.setPocket p v).press.rotation = s.press.rotation := rfl
@[simp] theorem State.setPocket_press_queue (s : State) (p : Nat) (v : Option Nat) :
    (s.setPocket p v).press.queue = s.press.queue := rfl
@[simp] theorem State.setPocket_press_period (s : State) (p : Nat) (v : Option Nat) :
    (s.setPocket p v).press.period = s.press.period := rfl
@[simp] theorem State.setPocket_press_index (s : State) (p : Nat) (v : Option Nat) :
    (s.setPocket p v).press.index = s.press.index := rfl
@[simp] theorem State.setPocket_press_lastCommand (s : State) (p : Nat) (v : Option Nat) :
    (s.setPocket p v).press.lastCommand = s.press.lastCommand := rfl
@[simp] theorem State.setPocket_press_awaited (s : State) (p : Nat) (v : Option Nat) :
    (s.setPocket p v).press.awaited = s.press.awaited := rfl
@[simp] theorem State.setPocket_dlv (s : State) (p : Nat) (v : Option Nat) :
    (s.setPocket p v).dlv = s.dlv := rfl
@[simp] theorem State.setPocket_zones (s : State) (p : Nat) (v : Option Nat) :
    (s.setPocket p v).zones = s.zones := rfl
@[simp] theorem State.setPocket_io (s : State) (p : Nat) (v : Option Nat) :
    (s.setPocket p v).io = s.io := rfl

@[simp] theorem State.recomputePeriod_pending (s : State) :
    (s.recomputePeriod).pending = s.pending := rfl
@[simp] theorem State.recomputePeriod_clock (s : State) : (s.recomputePeriod).clock = s.clock := rfl
@[simp] theorem State.recomputePeriod_cause (s : State) : (s.recomputePeriod).cause = s.cause := rfl
@[simp] theorem State.recomputePeriod_cfg (s : State) : (s.recomputePeriod).cfg = s.cfg := rfl
@[simp] theorem State.recomputePeriod_link (s : State) : (s.recomputePeriod).link = s.link := rfl
@[simp] theorem State.recomputePeriod_readers (s : State) :
    (s.recomputePeriod).readers = s.readers := rfl
@[simp] theorem State.recomputePeriod_admitSet (s : State) : (s.recomputePeriod).admitSet = s.admitSet := rfl
@[simp] theorem State.recomputePeriod_orders (s : State) :
    (s.recomputePeriod).orders = s.orders := rfl
@[simp] theorem State.recomputePeriod_table (s : State) : (s.recomputePeriod).table = s.table := rfl
@[simp] theorem State.recomputePeriod_trk (s : State) : (s.recomputePeriod).trk = s.trk := rfl
@[simp] theorem State.recomputePeriod_gauge (s : State) : (s.recomputePeriod).gauge = s.gauge := rfl
@[simp] theorem State.recomputePeriod_stg (s : State) : (s.recomputePeriod).stg = s.stg := rfl
@[simp] theorem State.recomputePeriod_press_rotation (s : State) :
    (s.recomputePeriod).press.rotation = s.press.rotation := rfl
@[simp] theorem State.recomputePeriod_press_pockets (s : State) :
    (s.recomputePeriod).press.pockets = s.press.pockets := rfl
@[simp] theorem State.recomputePeriod_press_queue (s : State) :
    (s.recomputePeriod).press.queue = s.press.queue := rfl
@[simp] theorem State.recomputePeriod_press_index (s : State) :
    (s.recomputePeriod).press.index = s.press.index := rfl
@[simp] theorem State.recomputePeriod_press_lastCommand (s : State) :
    (s.recomputePeriod).press.lastCommand = s.press.lastCommand := rfl
@[simp] theorem State.recomputePeriod_press_awaited (s : State) :
    (s.recomputePeriod).press.awaited = s.press.awaited := rfl
@[simp] theorem State.recomputePeriod_dlv (s : State) : (s.recomputePeriod).dlv = s.dlv := rfl
@[simp] theorem State.recomputePeriod_zones (s : State) : (s.recomputePeriod).zones = s.zones := rfl
@[simp] theorem State.recomputePeriod_io (s : State) : (s.recomputePeriod).io = s.io := rfl

@[simp] theorem State.commandIndex_pending (s : State) : (s.commandIndex).pending = s.pending := rfl
@[simp] theorem State.commandIndex_clock (s : State) : (s.commandIndex).clock = s.clock := rfl
@[simp] theorem State.commandIndex_cause (s : State) : (s.commandIndex).cause = s.cause := rfl
@[simp] theorem State.commandIndex_cfg (s : State) : (s.commandIndex).cfg = s.cfg := rfl
@[simp] theorem State.commandIndex_link (s : State) : (s.commandIndex).link = s.link := rfl
@[simp] theorem State.commandIndex_readers (s : State) : (s.commandIndex).readers = s.readers := rfl
@[simp] theorem State.commandIndex_admitSet (s : State) : (s.commandIndex).admitSet = s.admitSet := rfl
@[simp] theorem State.commandIndex_orders (s : State) : (s.commandIndex).orders = s.orders := rfl
@[simp] theorem State.commandIndex_table (s : State) : (s.commandIndex).table = s.table := rfl
@[simp] theorem State.commandIndex_trk (s : State) : (s.commandIndex).trk = s.trk := rfl
@[simp] theorem State.commandIndex_gauge (s : State) : (s.commandIndex).gauge = s.gauge := rfl
@[simp] theorem State.commandIndex_stg (s : State) : (s.commandIndex).stg = s.stg := rfl
@[simp] theorem State.commandIndex_press_rotation (s : State) :
    (s.commandIndex).press.rotation = s.press.rotation := rfl
@[simp] theorem State.commandIndex_press_pockets (s : State) :
    (s.commandIndex).press.pockets = s.press.pockets := rfl
@[simp] theorem State.commandIndex_press_queue (s : State) :
    (s.commandIndex).press.queue = s.press.queue := rfl
@[simp] theorem State.commandIndex_press_period (s : State) :
    (s.commandIndex).press.period = s.press.period := rfl
@[simp] theorem State.commandIndex_press_awaited (s : State) :
    (s.commandIndex).press.awaited = s.press.awaited := rfl
@[simp] theorem State.commandIndex_dlv (s : State) : (s.commandIndex).dlv = s.dlv := rfl
@[simp] theorem State.commandIndex_zones (s : State) : (s.commandIndex).zones = s.zones := rfl
@[simp] theorem State.commandIndex_io (s : State) : (s.commandIndex).io = s.io := rfl

@[simp] theorem State.tripPress_pending (s : State) : (s.tripPress).pending = s.pending := rfl
@[simp] theorem State.tripPress_clock (s : State) : (s.tripPress).clock = s.clock := rfl
@[simp] theorem State.tripPress_cause (s : State) : (s.tripPress).cause = s.cause := rfl
@[simp] theorem State.tripPress_cfg (s : State) : (s.tripPress).cfg = s.cfg := rfl
@[simp] theorem State.tripPress_link (s : State) : (s.tripPress).link = s.link := rfl
@[simp] theorem State.tripPress_readers (s : State) : (s.tripPress).readers = s.readers := rfl
@[simp] theorem State.tripPress_admitSet (s : State) : (s.tripPress).admitSet = s.admitSet := rfl
@[simp] theorem State.tripPress_orders (s : State) : (s.tripPress).orders = s.orders := rfl
@[simp] theorem State.tripPress_table (s : State) : (s.tripPress).table = s.table := rfl
@[simp] theorem State.tripPress_trk (s : State) : (s.tripPress).trk = s.trk := rfl
@[simp] theorem State.tripPress_gauge (s : State) : (s.tripPress).gauge = s.gauge := rfl
@[simp] theorem State.tripPress_stg (s : State) : (s.tripPress).stg = s.stg := rfl
@[simp] theorem State.tripPress_press_rotation (s : State) :
    (s.tripPress).press.rotation = s.press.rotation := rfl
@[simp] theorem State.tripPress_press_pockets (s : State) :
    (s.tripPress).press.pockets = s.press.pockets := rfl
@[simp] theorem State.tripPress_press_queue (s : State) :
    (s.tripPress).press.queue = s.press.queue := rfl
@[simp] theorem State.tripPress_press_period (s : State) :
    (s.tripPress).press.period = s.press.period := rfl
@[simp] theorem State.tripPress_press_lastCommand (s : State) :
    (s.tripPress).press.lastCommand = s.press.lastCommand := rfl
@[simp] theorem State.tripPress_press_awaited (s : State) :
    (s.tripPress).press.awaited = s.press.awaited := rfl
@[simp] theorem State.tripPress_dlv (s : State) : (s.tripPress).dlv = s.dlv := rfl
@[simp] theorem State.tripPress_zones (s : State) : (s.tripPress).zones = s.zones := rfl
@[simp] theorem State.tripPress_io (s : State) : (s.tripPress).io = s.io := rfl

@[simp] theorem State.setBelt_pending (s : State) (z : Belt) (k : BeltState) :
    (s.setBelt z k).pending = s.pending := rfl
@[simp] theorem State.setBelt_clock (s : State) (z : Belt) (k : BeltState) :
    (s.setBelt z k).clock = s.clock := rfl
@[simp] theorem State.setBelt_cause (s : State) (z : Belt) (k : BeltState) :
    (s.setBelt z k).cause = s.cause := rfl
@[simp] theorem State.setBelt_cfg (s : State) (z : Belt) (k : BeltState) :
    (s.setBelt z k).cfg = s.cfg := rfl
@[simp] theorem State.setBelt_link (s : State) (z : Belt) (k : BeltState) :
    (s.setBelt z k).link = s.link := rfl
@[simp] theorem State.setBelt_readers (s : State) (z : Belt) (k : BeltState) :
    (s.setBelt z k).readers = s.readers := rfl
@[simp] theorem State.setBelt_admitSet (s : State) (z : Belt) (k : BeltState) :
    (s.setBelt z k).admitSet = s.admitSet := rfl
@[simp] theorem State.setBelt_orders (s : State) (z : Belt) (k : BeltState) :
    (s.setBelt z k).orders = s.orders := rfl
@[simp] theorem State.setBelt_table (s : State) (z : Belt) (k : BeltState) :
    (s.setBelt z k).table = s.table := rfl
@[simp] theorem State.setBelt_trk_opened (s : State) (z : Belt) (k : BeltState) :
    (s.setBelt z k).trk.opened = s.trk.opened := rfl
@[simp] theorem State.setBelt_trk_eyes (s : State) (z : Belt) (k : BeltState) :
    (s.setBelt z k).trk.eyes = s.trk.eyes := rfl
@[simp] theorem State.setBelt_trk_periodStart (s : State) (z : Belt) (k : BeltState) :
    (s.setBelt z k).trk.periodStart = s.trk.periodStart := rfl
@[simp] theorem State.setBelt_gauge (s : State) (z : Belt) (k : BeltState) :
    (s.setBelt z k).gauge = s.gauge := rfl
@[simp] theorem State.setBelt_stg (s : State) (z : Belt) (k : BeltState) :
    (s.setBelt z k).stg = s.stg := rfl
@[simp] theorem State.setBelt_press (s : State) (z : Belt) (k : BeltState) :
    (s.setBelt z k).press = s.press := rfl
@[simp] theorem State.setBelt_dlv (s : State) (z : Belt) (k : BeltState) :
    (s.setBelt z k).dlv = s.dlv := rfl
@[simp] theorem State.setBelt_zones (s : State) (z : Belt) (k : BeltState) :
    (s.setBelt z k).zones = s.zones := rfl
@[simp] theorem State.setBelt_io (s : State) (z : Belt) (k : BeltState) :
    (s.setBelt z k).io = s.io := rfl

@[simp] theorem State.markHere_pending (s : State) (z : Belt) :
    (s.markHere z).pending = s.pending := rfl
@[simp] theorem State.markHere_clock (s : State) (z : Belt) : (s.markHere z).clock = s.clock := rfl
@[simp] theorem State.markHere_cause (s : State) (z : Belt) : (s.markHere z).cause = s.cause := rfl
@[simp] theorem State.markHere_cfg (s : State) (z : Belt) : (s.markHere z).cfg = s.cfg := rfl
@[simp] theorem State.markHere_link (s : State) (z : Belt) : (s.markHere z).link = s.link := rfl
@[simp] theorem State.markHere_readers (s : State) (z : Belt) :
    (s.markHere z).readers = s.readers := rfl
@[simp] theorem State.markHere_admitSet (s : State) (z : Belt) : (s.markHere z).admitSet = s.admitSet := rfl
@[simp] theorem State.markHere_orders (s : State) (z : Belt) :
    (s.markHere z).orders = s.orders := rfl
@[simp] theorem State.markHere_table (s : State) (z : Belt) : (s.markHere z).table = s.table := rfl
@[simp] theorem State.markHere_trk_opened (s : State) (z : Belt) :
    (s.markHere z).trk.opened = s.trk.opened := rfl
@[simp] theorem State.markHere_trk_eyes (s : State) (z : Belt) :
    (s.markHere z).trk.eyes = s.trk.eyes := rfl
@[simp] theorem State.markHere_trk_periodStart (s : State) (z : Belt) :
    (s.markHere z).trk.periodStart = s.trk.periodStart := rfl
@[simp] theorem State.markHere_gauge (s : State) (z : Belt) : (s.markHere z).gauge = s.gauge := rfl
@[simp] theorem State.markHere_stg (s : State) (z : Belt) : (s.markHere z).stg = s.stg := rfl
@[simp] theorem State.markHere_press (s : State) (z : Belt) : (s.markHere z).press = s.press := rfl
@[simp] theorem State.markHere_dlv (s : State) (z : Belt) : (s.markHere z).dlv = s.dlv := rfl
@[simp] theorem State.markHere_zones (s : State) (z : Belt) : (s.markHere z).zones = s.zones := rfl
@[simp] theorem State.markHere_io (s : State) (z : Belt) : (s.markHere z).io = s.io := rfl

@[simp] theorem State.bpTest_pending (s : State) (z : Belt) :
    (s.bpTest z).pending = s.pending := rfl
@[simp] theorem State.bpTest_clock (s : State) (z : Belt) : (s.bpTest z).clock = s.clock := rfl
@[simp] theorem State.bpTest_cause (s : State) (z : Belt) : (s.bpTest z).cause = s.cause := rfl
@[simp] theorem State.bpTest_cfg (s : State) (z : Belt) : (s.bpTest z).cfg = s.cfg := rfl
@[simp] theorem State.bpTest_link (s : State) (z : Belt) : (s.bpTest z).link = s.link := rfl
@[simp] theorem State.bpTest_readers (s : State) (z : Belt) :
    (s.bpTest z).readers = s.readers := rfl
@[simp] theorem State.bpTest_admitSet (s : State) (z : Belt) : (s.bpTest z).admitSet = s.admitSet := rfl
@[simp] theorem State.bpTest_orders (s : State) (z : Belt) : (s.bpTest z).orders = s.orders := rfl
@[simp] theorem State.bpTest_table (s : State) (z : Belt) : (s.bpTest z).table = s.table := rfl
@[simp] theorem State.bpTest_trk_opened (s : State) (z : Belt) :
    (s.bpTest z).trk.opened = s.trk.opened := rfl
@[simp] theorem State.bpTest_trk_eyes (s : State) (z : Belt) :
    (s.bpTest z).trk.eyes = s.trk.eyes := rfl
@[simp] theorem State.bpTest_trk_periodStart (s : State) (z : Belt) :
    (s.bpTest z).trk.periodStart = s.trk.periodStart := rfl
@[simp] theorem State.bpTest_gauge (s : State) (z : Belt) : (s.bpTest z).gauge = s.gauge := rfl
@[simp] theorem State.bpTest_stg (s : State) (z : Belt) : (s.bpTest z).stg = s.stg := rfl
@[simp] theorem State.bpTest_press (s : State) (z : Belt) : (s.bpTest z).press = s.press := rfl
@[simp] theorem State.bpTest_dlv (s : State) (z : Belt) : (s.bpTest z).dlv = s.dlv := rfl
@[simp] theorem State.bpTest_zones (s : State) (z : Belt) : (s.bpTest z).zones = s.zones := rfl
@[simp] theorem State.bpTest_io (s : State) (z : Belt) : (s.bpTest z).io = s.io := rfl

@[simp] theorem State.setOpened_pending (s : State) (w : Watch) (v : Bool) :
    (s.setOpened w v).pending = s.pending := rfl
@[simp] theorem State.setOpened_clock (s : State) (w : Watch) (v : Bool) :
    (s.setOpened w v).clock = s.clock := rfl
@[simp] theorem State.setOpened_cause (s : State) (w : Watch) (v : Bool) :
    (s.setOpened w v).cause = s.cause := rfl
@[simp] theorem State.setOpened_cfg (s : State) (w : Watch) (v : Bool) :
    (s.setOpened w v).cfg = s.cfg := rfl
@[simp] theorem State.setOpened_link (s : State) (w : Watch) (v : Bool) :
    (s.setOpened w v).link = s.link := rfl
@[simp] theorem State.setOpened_readers (s : State) (w : Watch) (v : Bool) :
    (s.setOpened w v).readers = s.readers := rfl
@[simp] theorem State.setOpened_admitSet (s : State) (w : Watch) (v : Bool) :
    (s.setOpened w v).admitSet = s.admitSet := rfl
@[simp] theorem State.setOpened_orders (s : State) (w : Watch) (v : Bool) :
    (s.setOpened w v).orders = s.orders := rfl
@[simp] theorem State.setOpened_table (s : State) (w : Watch) (v : Bool) :
    (s.setOpened w v).table = s.table := rfl
@[simp] theorem State.setOpened_trk_belts (s : State) (w : Watch) (v : Bool) :
    (s.setOpened w v).trk.belts = s.trk.belts := rfl
@[simp] theorem State.setOpened_trk_eyes (s : State) (w : Watch) (v : Bool) :
    (s.setOpened w v).trk.eyes = s.trk.eyes := rfl
@[simp] theorem State.setOpened_trk_periodStart (s : State) (w : Watch) (v : Bool) :
    (s.setOpened w v).trk.periodStart = s.trk.periodStart := rfl
@[simp] theorem State.setOpened_gauge (s : State) (w : Watch) (v : Bool) :
    (s.setOpened w v).gauge = s.gauge := rfl
@[simp] theorem State.setOpened_stg (s : State) (w : Watch) (v : Bool) :
    (s.setOpened w v).stg = s.stg := rfl
@[simp] theorem State.setOpened_press (s : State) (w : Watch) (v : Bool) :
    (s.setOpened w v).press = s.press := rfl
@[simp] theorem State.setOpened_dlv (s : State) (w : Watch) (v : Bool) :
    (s.setOpened w v).dlv = s.dlv := rfl
@[simp] theorem State.setOpened_zones (s : State) (w : Watch) (v : Bool) :
    (s.setOpened w v).zones = s.zones := rfl
@[simp] theorem State.setOpened_io (s : State) (w : Watch) (v : Bool) :
    (s.setOpened w v).io = s.io := rfl

@[simp] theorem State.noteEdge_pending (s : State) (e : Eye) :
    (s.noteEdge e).pending = s.pending := rfl
@[simp] theorem State.noteEdge_clock (s : State) (e : Eye) : (s.noteEdge e).clock = s.clock := rfl
@[simp] theorem State.noteEdge_cause (s : State) (e : Eye) : (s.noteEdge e).cause = s.cause := rfl
@[simp] theorem State.noteEdge_cfg (s : State) (e : Eye) : (s.noteEdge e).cfg = s.cfg := rfl
@[simp] theorem State.noteEdge_link (s : State) (e : Eye) : (s.noteEdge e).link = s.link := rfl
@[simp] theorem State.noteEdge_readers (s : State) (e : Eye) :
    (s.noteEdge e).readers = s.readers := rfl
@[simp] theorem State.noteEdge_admitSet (s : State) (e : Eye) : (s.noteEdge e).admitSet = s.admitSet := rfl
@[simp] theorem State.noteEdge_orders (s : State) (e : Eye) :
    (s.noteEdge e).orders = s.orders := rfl
@[simp] theorem State.noteEdge_table (s : State) (e : Eye) : (s.noteEdge e).table = s.table := rfl
@[simp] theorem State.noteEdge_trk_belts (s : State) (e : Eye) :
    (s.noteEdge e).trk.belts = s.trk.belts := rfl
@[simp] theorem State.noteEdge_trk_opened (s : State) (e : Eye) :
    (s.noteEdge e).trk.opened = s.trk.opened := rfl
@[simp] theorem State.noteEdge_trk_periodStart (s : State) (e : Eye) :
    (s.noteEdge e).trk.periodStart = s.trk.periodStart := rfl
@[simp] theorem State.noteEdge_gauge (s : State) (e : Eye) : (s.noteEdge e).gauge = s.gauge := rfl
@[simp] theorem State.noteEdge_stg (s : State) (e : Eye) : (s.noteEdge e).stg = s.stg := rfl
@[simp] theorem State.noteEdge_press (s : State) (e : Eye) : (s.noteEdge e).press = s.press := rfl
@[simp] theorem State.noteEdge_dlv (s : State) (e : Eye) : (s.noteEdge e).dlv = s.dlv := rfl
@[simp] theorem State.noteEdge_zones (s : State) (e : Eye) : (s.noteEdge e).zones = s.zones := rfl
@[simp] theorem State.noteEdge_io (s : State) (e : Eye) : (s.noteEdge e).io = s.io := rfl

@[simp] theorem State.setGauging_pending (s : State) (g : Option Gauging) :
    (s.setGauging g).pending = s.pending := rfl
@[simp] theorem State.setGauging_clock (s : State) (g : Option Gauging) :
    (s.setGauging g).clock = s.clock := rfl
@[simp] theorem State.setGauging_cause (s : State) (g : Option Gauging) :
    (s.setGauging g).cause = s.cause := rfl
@[simp] theorem State.setGauging_cfg (s : State) (g : Option Gauging) :
    (s.setGauging g).cfg = s.cfg := rfl
@[simp] theorem State.setGauging_link (s : State) (g : Option Gauging) :
    (s.setGauging g).link = s.link := rfl
@[simp] theorem State.setGauging_readers (s : State) (g : Option Gauging) :
    (s.setGauging g).readers = s.readers := rfl
@[simp] theorem State.setGauging_admitSet (s : State) (g : Option Gauging) :
    (s.setGauging g).admitSet = s.admitSet := rfl
@[simp] theorem State.setGauging_orders (s : State) (g : Option Gauging) :
    (s.setGauging g).orders = s.orders := rfl
@[simp] theorem State.setGauging_table (s : State) (g : Option Gauging) :
    (s.setGauging g).table = s.table := rfl
@[simp] theorem State.setGauging_trk (s : State) (g : Option Gauging) :
    (s.setGauging g).trk = s.trk := rfl
@[simp] theorem State.setGauging_gauge_held (s : State) (g : Option Gauging) :
    (s.setGauging g).gauge.held = s.gauge.held := rfl
@[simp] theorem State.setGauging_stg (s : State) (g : Option Gauging) :
    (s.setGauging g).stg = s.stg := rfl
@[simp] theorem State.setGauging_press (s : State) (g : Option Gauging) :
    (s.setGauging g).press = s.press := rfl
@[simp] theorem State.setGauging_dlv (s : State) (g : Option Gauging) :
    (s.setGauging g).dlv = s.dlv := rfl
@[simp] theorem State.setGauging_zones (s : State) (g : Option Gauging) :
    (s.setGauging g).zones = s.zones := rfl
@[simp] theorem State.setGauging_io (s : State) (g : Option Gauging) :
    (s.setGauging g).io = s.io := rfl

@[simp] theorem State.setPoint_pending (s : State) (n : Nat) (p : Point) :
    (s.setPoint n p).pending = s.pending := rfl
@[simp] theorem State.setPoint_clock (s : State) (n : Nat) (p : Point) :
    (s.setPoint n p).clock = s.clock := rfl
@[simp] theorem State.setPoint_cause (s : State) (n : Nat) (p : Point) :
    (s.setPoint n p).cause = s.cause := rfl
@[simp] theorem State.setPoint_cfg (s : State) (n : Nat) (p : Point) :
    (s.setPoint n p).cfg = s.cfg := rfl
@[simp] theorem State.setPoint_link (s : State) (n : Nat) (p : Point) :
    (s.setPoint n p).link = s.link := rfl
@[simp] theorem State.setPoint_readers (s : State) (n : Nat) (p : Point) :
    (s.setPoint n p).readers = s.readers := rfl
@[simp] theorem State.setPoint_admitSet (s : State) (n : Nat) (p : Point) :
    (s.setPoint n p).admitSet = s.admitSet := rfl
@[simp] theorem State.setPoint_orders (s : State) (n : Nat) (p : Point) :
    (s.setPoint n p).orders = s.orders := rfl
@[simp] theorem State.setPoint_table (s : State) (n : Nat) (p : Point) :
    (s.setPoint n p).table = s.table := rfl
@[simp] theorem State.setPoint_trk (s : State) (n : Nat) (p : Point) :
    (s.setPoint n p).trk = s.trk := rfl
@[simp] theorem State.setPoint_gauge (s : State) (n : Nat) (p : Point) :
    (s.setPoint n p).gauge = s.gauge := rfl
@[simp] theorem State.setPoint_stg (s : State) (n : Nat) (p : Point) :
    (s.setPoint n p).stg = s.stg := rfl
@[simp] theorem State.setPoint_press (s : State) (n : Nat) (p : Point) :
    (s.setPoint n p).press = s.press := rfl
@[simp] theorem State.setPoint_dlv (s : State) (n : Nat) (p : Point) :
    (s.setPoint n p).dlv = s.dlv := rfl
@[simp] theorem State.setPoint_zones (s : State) (n : Nat) (p : Point) :
    (s.setPoint n p).zones = s.zones := rfl
@[simp] theorem State.setPoint_io_guardClosed (s : State) (n : Nat) (p : Point) :
    (s.setPoint n p).io.guardClosed = s.io.guardClosed := rfl
@[simp] theorem State.setPoint_io_armed (s : State) (n : Nat) (p : Point) :
    (s.setPoint n p).io.armed = s.io.armed := rfl

@[simp] theorem State.clearOverdue_pending (s : State) : (s.clearOverdue).pending = s.pending := rfl
@[simp] theorem State.clearOverdue_clock (s : State) : (s.clearOverdue).clock = s.clock := rfl
@[simp] theorem State.clearOverdue_cause (s : State) : (s.clearOverdue).cause = s.cause := rfl
@[simp] theorem State.clearOverdue_cfg (s : State) : (s.clearOverdue).cfg = s.cfg := rfl
@[simp] theorem State.clearOverdue_link (s : State) : (s.clearOverdue).link = s.link := rfl
@[simp] theorem State.clearOverdue_readers (s : State) : (s.clearOverdue).readers = s.readers := rfl
@[simp] theorem State.clearOverdue_admitSet (s : State) : (s.clearOverdue).admitSet = s.admitSet := rfl
@[simp] theorem State.clearOverdue_orders (s : State) : (s.clearOverdue).orders = s.orders := rfl
@[simp] theorem State.clearOverdue_table (s : State) : (s.clearOverdue).table = s.table := rfl
@[simp] theorem State.clearOverdue_trk (s : State) : (s.clearOverdue).trk = s.trk := rfl
@[simp] theorem State.clearOverdue_gauge (s : State) : (s.clearOverdue).gauge = s.gauge := rfl
@[simp] theorem State.clearOverdue_stg_queue (s : State) :
    (s.clearOverdue).stg.queue = s.stg.queue := rfl
@[simp] theorem State.clearOverdue_stg_cases (s : State) :
    (s.clearOverdue).stg.cases = s.stg.cases := rfl
@[simp] theorem State.clearOverdue_stg_side (s : State) :
    (s.clearOverdue).stg.side = s.stg.side := rfl
@[simp] theorem State.clearOverdue_stg_casing (s : State) :
    (s.clearOverdue).stg.casing = s.stg.casing := rfl
@[simp] theorem State.clearOverdue_press (s : State) : (s.clearOverdue).press = s.press := rfl
@[simp] theorem State.clearOverdue_dlv (s : State) : (s.clearOverdue).dlv = s.dlv := rfl
@[simp] theorem State.clearOverdue_zones (s : State) : (s.clearOverdue).zones = s.zones := rfl
@[simp] theorem State.clearOverdue_io (s : State) : (s.clearOverdue).io = s.io := rfl

@[simp] theorem State.clearJacketOverdue_pending (s : State) :
    (s.clearJacketOverdue).pending = s.pending := rfl
@[simp] theorem State.clearJacketOverdue_clock (s : State) :
    (s.clearJacketOverdue).clock = s.clock := rfl
@[simp] theorem State.clearJacketOverdue_cause (s : State) :
    (s.clearJacketOverdue).cause = s.cause := rfl
@[simp] theorem State.clearJacketOverdue_cfg (s : State) : (s.clearJacketOverdue).cfg = s.cfg := rfl
@[simp] theorem State.clearJacketOverdue_link (s : State) :
    (s.clearJacketOverdue).link = s.link := rfl
@[simp] theorem State.clearJacketOverdue_readers (s : State) :
    (s.clearJacketOverdue).readers = s.readers := rfl
@[simp] theorem State.clearJacketOverdue_admitSet (s : State) :
    (s.clearJacketOverdue).admitSet = s.admitSet := rfl
@[simp] theorem State.clearJacketOverdue_orders (s : State) :
    (s.clearJacketOverdue).orders = s.orders := rfl
@[simp] theorem State.clearJacketOverdue_table (s : State) :
    (s.clearJacketOverdue).table = s.table := rfl
@[simp] theorem State.clearJacketOverdue_trk (s : State) : (s.clearJacketOverdue).trk = s.trk := rfl
@[simp] theorem State.clearJacketOverdue_gauge (s : State) :
    (s.clearJacketOverdue).gauge = s.gauge := rfl
@[simp] theorem State.clearJacketOverdue_stg (s : State) : (s.clearJacketOverdue).stg = s.stg := rfl
@[simp] theorem State.clearJacketOverdue_press (s : State) :
    (s.clearJacketOverdue).press = s.press := rfl
@[simp] theorem State.clearJacketOverdue_dlv_jackets (s : State) :
    (s.clearJacketOverdue).dlv.jackets = s.dlv.jackets := rfl
@[simp] theorem State.clearJacketOverdue_dlv_stop (s : State) :
    (s.clearJacketOverdue).dlv.stop = s.dlv.stop := rfl
@[simp] theorem State.clearJacketOverdue_dlv_gate (s : State) :
    (s.clearJacketOverdue).dlv.gate = s.dlv.gate := rfl
@[simp] theorem State.clearJacketOverdue_zones (s : State) :
    (s.clearJacketOverdue).zones = s.zones := rfl
@[simp] theorem State.clearJacketOverdue_io (s : State) : (s.clearJacketOverdue).io = s.io := rfl

@[simp] theorem State.createBook_pending (s : State) (slot : Nat) (c : Count) :
    (s.createBook slot c).pending = s.pending := rfl
@[simp] theorem State.createBook_clock (s : State) (slot : Nat) (c : Count) :
    (s.createBook slot c).clock = s.clock := rfl
@[simp] theorem State.createBook_cause (s : State) (slot : Nat) (c : Count) :
    (s.createBook slot c).cause = s.cause := rfl
@[simp] theorem State.createBook_cfg (s : State) (slot : Nat) (c : Count) :
    (s.createBook slot c).cfg = s.cfg := rfl
@[simp] theorem State.createBook_link (s : State) (slot : Nat) (c : Count) :
    (s.createBook slot c).link = s.link := rfl
@[simp] theorem State.createBook_readers (s : State) (slot : Nat) (c : Count) :
    (s.createBook slot c).readers = s.readers := rfl
@[simp] theorem State.createBook_admitSet (s : State) (slot : Nat) (c : Count) :
    (s.createBook slot c).admitSet = s.admitSet := rfl
@[simp] theorem State.createBook_orders (s : State) (slot : Nat) (c : Count) :
    (s.createBook slot c).orders = s.orders := rfl
@[simp] theorem State.createBook_table_lastLead (s : State) (slot : Nat) (c : Count) :
    (s.createBook slot c).table.lastLead = s.table.lastLead := rfl
@[simp] theorem State.createBook_table_outcomes (s : State) (slot : Nat) (c : Count) :
    (s.createBook slot c).table.outcomes = s.table.outcomes := rfl
@[simp] theorem State.createBook_table_pressApproach (s : State) (slot : Nat) (c : Count) :
    (s.createBook slot c).table.pressApproach = s.table.pressApproach := rfl
@[simp] theorem State.createBook_table_jacketApproach (s : State) (slot : Nat) (c : Count) :
    (s.createBook slot c).table.jacketApproach = s.table.jacketApproach := rfl
@[simp] theorem State.createBook_table_delivery (s : State) (slot : Nat) (c : Count) :
    (s.createBook slot c).table.delivery = s.table.delivery := rfl
@[simp] theorem State.createBook_trk (s : State) (slot : Nat) (c : Count) :
    (s.createBook slot c).trk = s.trk := rfl
@[simp] theorem State.createBook_gauge (s : State) (slot : Nat) (c : Count) :
    (s.createBook slot c).gauge = s.gauge := rfl
@[simp] theorem State.createBook_stg (s : State) (slot : Nat) (c : Count) :
    (s.createBook slot c).stg = s.stg := rfl
@[simp] theorem State.createBook_press (s : State) (slot : Nat) (c : Count) :
    (s.createBook slot c).press = s.press := rfl
@[simp] theorem State.createBook_dlv (s : State) (slot : Nat) (c : Count) :
    (s.createBook slot c).dlv = s.dlv := rfl
@[simp] theorem State.createBook_zones (s : State) (slot : Nat) (c : Count) :
    (s.createBook slot c).zones = s.zones := rfl
@[simp] theorem State.createBook_io (s : State) (slot : Nat) (c : Count) :
    (s.createBook slot c).io = s.io := rfl

@[simp] theorem State.collect_pending (s : State) (r : Nat) :
    (s.collect r).pending = s.pending := rfl
@[simp] theorem State.collect_clock (s : State) (r : Nat) : (s.collect r).clock = s.clock := rfl
@[simp] theorem State.collect_cause (s : State) (r : Nat) : (s.collect r).cause = s.cause := rfl
@[simp] theorem State.collect_cfg (s : State) (r : Nat) : (s.collect r).cfg = s.cfg := rfl
@[simp] theorem State.collect_link (s : State) (r : Nat) : (s.collect r).link = s.link := rfl
@[simp] theorem State.collect_readers (s : State) (r : Nat) :
    (s.collect r).readers = s.readers := rfl
@[simp] theorem State.collect_admitSet (s : State) (r : Nat) : (s.collect r).admitSet = s.admitSet := rfl
@[simp] theorem State.collect_orders (s : State) (r : Nat) : (s.collect r).orders = s.orders := rfl
@[simp] theorem State.collect_table_nextSeq (s : State) (r : Nat) :
    (s.collect r).table.nextSeq = s.table.nextSeq := rfl
@[simp] theorem State.collect_table_lastLead (s : State) (r : Nat) :
    (s.collect r).table.lastLead = s.table.lastLead := rfl
@[simp] theorem State.collect_table_transit (s : State) (r : Nat) :
    (s.collect r).table.transit = s.table.transit := rfl
@[simp] theorem State.collect_table_pressApproach (s : State) (r : Nat) :
    (s.collect r).table.pressApproach = s.table.pressApproach := rfl
@[simp] theorem State.collect_table_jacketApproach (s : State) (r : Nat) :
    (s.collect r).table.jacketApproach = s.table.jacketApproach := rfl
@[simp] theorem State.collect_table_delivery (s : State) (r : Nat) :
    (s.collect r).table.delivery = s.table.delivery := rfl
@[simp] theorem State.collect_trk (s : State) (r : Nat) : (s.collect r).trk = s.trk := rfl
@[simp] theorem State.collect_gauge (s : State) (r : Nat) : (s.collect r).gauge = s.gauge := rfl
@[simp] theorem State.collect_stg (s : State) (r : Nat) : (s.collect r).stg = s.stg := rfl
@[simp] theorem State.collect_press (s : State) (r : Nat) : (s.collect r).press = s.press := rfl
@[simp] theorem State.collect_dlv (s : State) (r : Nat) : (s.collect r).dlv = s.dlv := rfl
@[simp] theorem State.collect_zones (s : State) (r : Nat) : (s.collect r).zones = s.zones := rfl
@[simp] theorem State.collect_io (s : State) (r : Nat) : (s.collect r).io = s.io := rfl

@[simp] theorem State.respond_pending (s : State) (code : Byte) (a : Reply) :
    (s.respond code a).pending = s.pending := rfl
@[simp] theorem State.respond_clock (s : State) (code : Byte) (a : Reply) :
    (s.respond code a).clock = s.clock := rfl
@[simp] theorem State.respond_cause (s : State) (code : Byte) (a : Reply) :
    (s.respond code a).cause = s.cause := rfl
@[simp] theorem State.respond_cfg (s : State) (code : Byte) (a : Reply) :
    (s.respond code a).cfg = s.cfg := rfl
@[simp] theorem State.respond_link_buffer (s : State) (code : Byte) (a : Reply) :
    (s.respond code a).link.buffer = s.link.buffer := rfl
@[simp] theorem State.respond_link_last (s : State) (code : Byte) (a : Reply) :
    (s.respond code a).link.last = s.link.last := rfl
@[simp] theorem State.respond_link_restartDue (s : State) (code : Byte) (a : Reply) :
    (s.respond code a).link.restartDue = s.link.restartDue := rfl
@[simp] theorem State.respond_readers (s : State) (code : Byte) (a : Reply) :
    (s.respond code a).readers = s.readers := rfl
@[simp] theorem State.respond_admitSet (s : State) (code : Byte) (a : Reply) :
    (s.respond code a).admitSet = s.admitSet := rfl
@[simp] theorem State.respond_orders (s : State) (code : Byte) (a : Reply) :
    (s.respond code a).orders = s.orders := rfl
@[simp] theorem State.respond_table (s : State) (code : Byte) (a : Reply) :
    (s.respond code a).table = s.table := rfl
@[simp] theorem State.respond_trk (s : State) (code : Byte) (a : Reply) :
    (s.respond code a).trk = s.trk := rfl
@[simp] theorem State.respond_gauge (s : State) (code : Byte) (a : Reply) :
    (s.respond code a).gauge = s.gauge := rfl
@[simp] theorem State.respond_stg (s : State) (code : Byte) (a : Reply) :
    (s.respond code a).stg = s.stg := rfl
@[simp] theorem State.respond_press (s : State) (code : Byte) (a : Reply) :
    (s.respond code a).press = s.press := rfl
@[simp] theorem State.respond_dlv (s : State) (code : Byte) (a : Reply) :
    (s.respond code a).dlv = s.dlv := rfl
@[simp] theorem State.respond_zones (s : State) (code : Byte) (a : Reply) :
    (s.respond code a).zones = s.zones := rfl
@[simp] theorem State.respond_io (s : State) (code : Byte) (a : Reply) :
    (s.respond code a).io = s.io := rfl

@[simp] theorem State.dropOrder_pending (s : State) (n : Nat) :
    (s.dropOrder n).pending = s.pending := rfl
@[simp] theorem State.dropOrder_clock (s : State) (n : Nat) : (s.dropOrder n).clock = s.clock := rfl
@[simp] theorem State.dropOrder_cause (s : State) (n : Nat) : (s.dropOrder n).cause = s.cause := rfl
@[simp] theorem State.dropOrder_cfg (s : State) (n : Nat) : (s.dropOrder n).cfg = s.cfg := rfl
@[simp] theorem State.dropOrder_link (s : State) (n : Nat) : (s.dropOrder n).link = s.link := rfl
@[simp] theorem State.dropOrder_readers (s : State) (n : Nat) :
    (s.dropOrder n).readers = s.readers := rfl
@[simp] theorem State.dropOrder_admitSet (s : State) (n : Nat) : (s.dropOrder n).admitSet = s.admitSet := rfl
@[simp] theorem State.dropOrder_table (s : State) (n : Nat) : (s.dropOrder n).table = s.table := rfl
@[simp] theorem State.dropOrder_trk (s : State) (n : Nat) : (s.dropOrder n).trk = s.trk := rfl
@[simp] theorem State.dropOrder_gauge (s : State) (n : Nat) : (s.dropOrder n).gauge = s.gauge := rfl
@[simp] theorem State.dropOrder_stg (s : State) (n : Nat) : (s.dropOrder n).stg = s.stg := rfl
@[simp] theorem State.dropOrder_press (s : State) (n : Nat) : (s.dropOrder n).press = s.press := rfl
@[simp] theorem State.dropOrder_dlv (s : State) (n : Nat) : (s.dropOrder n).dlv = s.dlv := rfl
@[simp] theorem State.dropOrder_zones (s : State) (n : Nat) : (s.dropOrder n).zones = s.zones := rfl
@[simp] theorem State.dropOrder_io (s : State) (n : Nat) : (s.dropOrder n).io = s.io := rfl

@[simp] theorem State.discardFrame_pending (s : State) : (s.discardFrame).pending = s.pending := rfl
@[simp] theorem State.discardFrame_clock (s : State) : (s.discardFrame).clock = s.clock := rfl
@[simp] theorem State.discardFrame_cause (s : State) : (s.discardFrame).cause = s.cause := rfl
@[simp] theorem State.discardFrame_cfg (s : State) : (s.discardFrame).cfg = s.cfg := rfl
@[simp] theorem State.discardFrame_link_last (s : State) :
    (s.discardFrame).link.last = s.link.last := rfl
@[simp] theorem State.discardFrame_link_response (s : State) :
    (s.discardFrame).link.response = s.link.response := rfl
@[simp] theorem State.discardFrame_link_restartDue (s : State) :
    (s.discardFrame).link.restartDue = s.link.restartDue := rfl
@[simp] theorem State.discardFrame_link_draws (s : State) :
    (s.discardFrame).link.draws = s.link.draws := rfl
@[simp] theorem State.discardFrame_readers (s : State) : (s.discardFrame).readers = s.readers := rfl
@[simp] theorem State.discardFrame_admitSet (s : State) : (s.discardFrame).admitSet = s.admitSet := rfl
@[simp] theorem State.discardFrame_orders (s : State) : (s.discardFrame).orders = s.orders := rfl
@[simp] theorem State.discardFrame_table (s : State) : (s.discardFrame).table = s.table := rfl
@[simp] theorem State.discardFrame_trk (s : State) : (s.discardFrame).trk = s.trk := rfl
@[simp] theorem State.discardFrame_gauge (s : State) : (s.discardFrame).gauge = s.gauge := rfl
@[simp] theorem State.discardFrame_stg (s : State) : (s.discardFrame).stg = s.stg := rfl
@[simp] theorem State.discardFrame_press (s : State) : (s.discardFrame).press = s.press := rfl
@[simp] theorem State.discardFrame_dlv (s : State) : (s.discardFrame).dlv = s.dlv := rfl
@[simp] theorem State.discardFrame_zones (s : State) : (s.discardFrame).zones = s.zones := rfl
@[simp] theorem State.discardFrame_io (s : State) : (s.discardFrame).io = s.io := rfl

@[simp] theorem State.putCfg_pending (s : State) (c : Cfg) : (s.putCfg c).pending = s.pending := rfl
@[simp] theorem State.putCfg_clock (s : State) (c : Cfg) : (s.putCfg c).clock = s.clock := rfl
@[simp] theorem State.putCfg_cause (s : State) (c : Cfg) : (s.putCfg c).cause = s.cause := rfl
@[simp] theorem State.putCfg_link (s : State) (c : Cfg) : (s.putCfg c).link = s.link := rfl
@[simp] theorem State.putCfg_readers (s : State) (c : Cfg) : (s.putCfg c).readers = s.readers := rfl
@[simp] theorem State.putCfg_admitSet (s : State) (c : Cfg) : (s.putCfg c).admitSet = s.admitSet := rfl
@[simp] theorem State.putCfg_orders (s : State) (c : Cfg) : (s.putCfg c).orders = s.orders := rfl
@[simp] theorem State.putCfg_table (s : State) (c : Cfg) : (s.putCfg c).table = s.table := rfl
@[simp] theorem State.putCfg_gauge (s : State) (c : Cfg) : (s.putCfg c).gauge = s.gauge := rfl
@[simp] theorem State.putCfg_stg (s : State) (c : Cfg) : (s.putCfg c).stg = s.stg := rfl
@[simp] theorem State.putCfg_press (s : State) (c : Cfg) : (s.putCfg c).press = s.press := rfl
@[simp] theorem State.putCfg_dlv (s : State) (c : Cfg) : (s.putCfg c).dlv = s.dlv := rfl
@[simp] theorem State.putCfg_zones (s : State) (c : Cfg) : (s.putCfg c).zones = s.zones := rfl
@[simp] theorem State.putCfg_io (s : State) (c : Cfg) : (s.putCfg c).io = s.io := rfl
@[simp] theorem State.putCfg_cfg (s : State) (c : Cfg) : (s.putCfg c).cfg = c := rfl
@[simp] theorem State.putCfg_trk_opened (s : State) (c : Cfg) :
    (s.putCfg c).trk.opened = s.trk.opened := rfl
@[simp] theorem State.putCfg_trk_eyes (s : State) (c : Cfg) :
    (s.putCfg c).trk.eyes = s.trk.eyes := rfl
@[simp] theorem State.putCfg_trk_periodStart (s : State) (c : Cfg) :
    (s.putCfg c).trk.periodStart = s.trk.periodStart := rfl
@[simp] theorem State.putCfg_belt (s : State) (c : Cfg) (z : Belt) :
    (s.putCfg c).belt z = { s.belt z with counted := false } := by cases z <;> rfl

end Sys2Proof.Machine
end

