-- ==== Sys2Proof/Laws/Lookup.lean ====
section
/-! SUPPORT. Reading back what an update wrote: the belts, the watch points, the zones, the records and the
orders. -/

namespace Sys2Proof.Machine

@[simp] theorem PerBelt.get_set {α : Type} (p : PerBelt α) (z y : Belt) (v : α) :
    (p.set z v).get y = if y = z then v else p.get y := by
  cases z <;> cases y <;> rfl

@[simp] theorem PerWatch.get_set {α : Type} (p : PerWatch α) (w x : Watch) (v : α) :
    (p.set w v).get x = if x = w then v else p.get x := by
  cases w <;> cases x <;> rfl

@[simp] theorem Zones.get_set (p : Zones) (z y : Zone) (v : ZoneCtl) :
    (p.set z v).get y = if y = z then v else p.get y := by
  cases z <;> cases y <;> rfl

@[simp] theorem State.belt_setBelt (s : State) (z y : Belt) (k : BeltState) :
    (s.setBelt z k).belt y = if y = z then k else s.belt y := by
  simp [State.belt, State.setBelt]

@[simp] theorem State.belt_bpTest (s : State) (z y : Belt) :
    (s.bpTest z).belt y =
      if y = z then { s.belt z with backPressure := s.bpNext z } else s.belt y := by
  simp [State.belt, State.bpTest]

/-- A list of records changed at one slot is read back at any slot. -/
theorem find?_map_slot (l : List Book) (r q : Nat) (f : Book → Book)
    (hf : ∀ b, (f b).slot = b.slot) :
    (l.map (fun b => if b.slot == r then f b else b)).find? (fun b => b.slot == q) =
      (l.find? (fun b => b.slot == q)).map (fun b => if b.slot == r then f b else b) := by
  induction l with
  | nil => rfl
  | cons b l ih =>
    have hs : (if b.slot == r then f b else b).slot = b.slot := by split <;> simp [hf]
    simp only [List.map_cons, List.find?_cons, hs]
    split
    · rfl
    · exact ih

/-- An update that keeps the slot is read back at its own slot, and nowhere else. -/
theorem State.book?_updBook (s : State) (r q : Nat) (f : Book → Book)
    (hf : ∀ b, (f b).slot = b.slot) :
    (s.updBook r f).book? q = (s.book? q).map (fun b => if b.slot == r then f b else b) :=
  find?_map_slot s.table.books r q f hf

/-- The record read from a slot lies in that slot. -/
theorem State.slot_of_book? {s : State} {r : Nat} {b : Book} (h : s.book? r = some b) :
    b.slot = r := by
  simpa using List.find?_some h

/-- A record read from the table is one of its records. -/
theorem State.mem_of_book? {s : State} {r : Nat} {b : Book} (h : s.book? r = some b) :
    b ∈ s.table.books :=
  List.mem_of_find?_eq_some h

theorem State.book?_updBook_self (s : State) (r : Nat) (f : Book → Book)
    (hf : ∀ b, (f b).slot = b.slot) : (s.updBook r f).book? r = (s.book? r).map f := by
  rw [s.book?_updBook r r f hf]
  cases h : s.book? r with
  | none => rfl
  | some b => simp [State.slot_of_book? h]

theorem State.book?_updBook_ne (s : State) (r q : Nat) (f : Book → Book)
    (hf : ∀ b, (f b).slot = b.slot) (hq : q ≠ r) : (s.updBook r f).book? q = s.book? q := by
  rw [s.book?_updBook r q f hf]
  cases h : s.book? q with
  | none => rfl
  | some b => simp [State.slot_of_book? h, hq]

/-- A list of orders changed at one number is read back at any number. -/
theorem find?_map_order (l : List Order) (n q : Nat) (f : Order → Order)
    (hf : ∀ o, (f o).tmpl.order = o.tmpl.order) :
    (l.map (fun o => if o.tmpl.order == n then f o else o)).find? (fun o => o.tmpl.order == q) =
      (l.find? (fun o => o.tmpl.order == q)).map
        (fun o => if o.tmpl.order == n then f o else o) := by
  induction l with
  | nil => rfl
  | cons b l ih =>
    have hs : (if b.tmpl.order == n then f b else b).tmpl.order = b.tmpl.order := by
      split <;> simp [hf]
    simp only [List.map_cons, List.find?_cons, hs]
    split
    · rfl
    · exact ih

theorem State.order?_updOrder (s : State) (n q : Nat) (f : Order → Order)
    (hf : ∀ o, (f o).tmpl.order = o.tmpl.order) :
    (s.updOrder n f).order? q =
      (s.order? q).map (fun o => if o.tmpl.order == n then f o else o) :=
  find?_map_order s.orders n q f hf

theorem State.number_of_order? {s : State} {n : Nat} {o : Order} (h : s.order? n = some o) :
    o.tmpl.order = n := by
  simpa using List.find?_some h

end Sys2Proof.Machine
end

