-- ==== Sys2Proof/Laws/Decisions.lean ====
section
/-! SUPPORT. Once, everything that the decisions of the units can do: the staging head decision, the casing
cycle and release, the jacket stop decision and release, the index command, and the tests of
back-pressure and of a drain's end. -/

namespace Sys2Proof.Machine

theorem ZoneCtl.Drains.trans {k l m : ZoneCtl} (h : k.Drains l) (g : l.Drains m) : k.Drains m := by
  rcases h with rfl | ⟨hk, rfl⟩
  · exact g
  · rcases g with rfl | ⟨hl, rfl⟩
    · exact .inr ⟨hk, rfl⟩
    · simp at hl

theorem Book.Decided.refl (b : Book) : b.Decided b := ⟨rfl, fun _ h => h⟩

theorem Book.Decided.trans {a b c : Book} (h : a.Decided b) (g : b.Decided c) : a.Decided c :=
  ⟨g.fixed.trans h.fixed, fun why hw => g.reason why (h.reason why hw)⟩

theorem decided_refl (l : List Book) : List.Forall₂ Book.Decided l l := by
  induction l with
  | nil => exact .nil
  | cons b l ih => exact .cons (.refl b) ih

theorem decided_trans {k l m : List Book} (h : List.Forall₂ Book.Decided k l)
    (g : List.Forall₂ Book.Decided l m) : List.Forall₂ Book.Decided k m := by
  induction h generalizing m with
  | nil => exact g
  | cons hab _ ih =>
    cases g with
    | cons hbc hlm => exact .cons (hab.trans hbc) (ih hlm)

theorem decided_map (l : List Book) (f : Book → Book) (h : ∀ b, Book.Decided b (f b)) :
    List.Forall₂ Book.Decided l (l.map f) := by
  induction l with
  | nil => exact .nil
  | cons b l ih => exact .cons (h b) ih

theorem Decides.refl (s : State) : Decides s s := by
  constructor <;> intros <;> first | rfl | exact .inl rfl | exact decided_refl _

theorem Decides.trans {s t u : State} (h : Decides s t) (g : Decides t u) : Decides s u where
  pending := g.pending.trans h.pending
  clock := g.clock.trans h.clock
  cause := g.cause.trans h.cause
  cfg := g.cfg.trans h.cfg
  link := g.link.trans h.link
  readers := g.readers.trans h.readers
  admitSet := g.admitSet.trans h.admitSet
  orders := g.orders.trans h.orders
  gauge := g.gauge.trans h.gauge
  io := g.io.trans h.io
  books := decided_trans h.books g.books
  table := by
    have h1 := h.table
    have g1 := g.table
    rw [← h1, ← g1]
  belts := fun z => by
    have h1 := h.belts z
    have g1 := g.belts z
    rw [← h1, ← g1]
  opened := g.opened.trans h.opened
  eyes := g.eyes.trans h.eyes
  periodStart := g.periodStart.trans h.periodStart
  queue := g.queue.trans h.queue
  overdue := g.overdue.trans h.overdue
  casing := g.casing.trans h.casing
  press := by
    have h1 := h.press
    have g1 := g.press
    rw [← h1, ← g1]
  stop := g.stop.trans h.stop
  jacketOverdue := g.jacketOverdue.trans h.jacketOverdue
  gate := g.gate.trans h.gate
  zones := fun z => (h.zones z).trans (g.zones z)

/-! ### The updates that decisions are made of -/

/-- An update of the staging side and of the case queue is within a decision. -/
theorem decides_staging (s : State) (side : StagingSide) (cases : List CaseEntry) :
    Decides s { s with stg := { s.stg with side := side, cases := cases } } := by
  constructor <;> intros <;> first | rfl | exact .inl rfl | exact decided_refl _

theorem decides_casing (s : State) (c : CasingSide) (cases : List CaseEntry)
    (h : c.record? = s.stg.casing.record?) :
    Decides s { s with stg := { s.stg with casing := c, cases := cases } } := by
  constructor <;> intros <;> first | rfl | exact .inl rfl | exact h | exact decided_refl _

theorem decides_stop (s : State) (x : JacketStop) (jackets : List Identity)
    (h : x.record? = s.dlv.stop.record?) :
    Decides s { s with dlv := { s.dlv with stop := x, jackets := jackets } } := by
  constructor <;> intros <;> first | rfl | exact .inl rfl | exact h | exact decided_refl _

theorem decides_updBook (s : State) (r : Nat) (f : Book → Book) (h : ∀ b, Book.Decided b (f b)) :
    Decides s (s.updBook r f) := by
  constructor <;> intros <;> try first | rfl | exact .inl rfl | exact decided_refl _
  refine decided_map _ _ fun b => ?_
  split
  · exact h b
  · exact .refl b

theorem decides_setReason (s : State) (r : Nat) (why : Reason) : Decides s (s.setReason r why) :=
  decides_updBook s r _ (fun b => by
    split
    · rename_i h
      simp only [Bool.and_eq_true, Option.isNone_iff_eq_none] at h
      exact ⟨rfl, fun w hw => by simp [h.2] at hw⟩
    · exact .refl b)

theorem decides_setSide (s : State) (x : StagingSide) : Decides s (s.setSide x) :=
  decides_staging s x s.stg.cases

theorem decides_bpTest (s : State) (z : Belt) : Decides s (s.bpTest z) := by
  constructor <;> intros <;> try first | rfl | exact .inl rfl | exact decided_refl _
  rename_i y
  simp only [State.belt_bpTest]
  split
  · rename_i h; subst h; rfl
  · rfl

theorem decides_bpTests (s : State) : Decides s s.bpTests :=
  ((decides_bpTest s .a).trans (decides_bpTest _ .b)).trans (decides_bpTest _ .c)

/-! ### The decisions -/

theorem decides_decideCase (s : State) (x : Book) (h : CaseEntry) (behind : List CaseEntry) :
    Decides s (s.decideCase x h behind) := by
  have hw : Decides s s.waitCase := by
    unfold State.waitCase
    split
    · exact Decides.refl s
    · exact decides_setSide s _
  unfold State.decideCase
  split
  · exact decides_setSide s _
  · exact decides_staging s _ _
  · split
    · exact decides_setSide s _
    · split
      · exact hw
      · exact (decides_setReason s _ _).trans (decides_setSide _ _)

theorem decides_decideHead (s : State) (x : Book) : Decides s (s.decideHead x) := by
  have hc : Decides s s.waitCase := by
    unfold State.waitCase
    split
    · exact Decides.refl s
    · exact decides_setSide s _
  have he : Decides s s.waitEarly := by
    unfold State.waitEarly
    split
    · exact Decides.refl s
    · exact decides_setSide s _
  unfold State.decideHead
  split
  · exact Decides.refl s
  · split
    · exact decides_setSide s _
    · split
      · exact (decides_setReason s _ _).trans (decides_setSide _ _)
      · split
        · exact he
        · split
          · exact decides_setSide s _
          · split
            · exact hc
            · exact decides_decideCase s _ _ _

/-- The staging head decision. -/
theorem decides_stagingDecide (s : State) : Decides s s.stagingDecide := by
  unfold State.stagingDecide
  split
  · split
    · exact decides_decideHead s _
    · exact Decides.refl s
  · exact Decides.refl s

/-- The casing release. -/
theorem decides_casingReleaseTest (s : State) : Decides s s.casingReleaseTest := by
  unfold State.casingReleaseTest
  split
  · rename_i r h
    split
    · exact decides_casing s _ s.stg.cases (by rw [h]; rfl)
    · exact Decides.refl s
  all_goals exact Decides.refl s

/-- The casing cycle. -/
theorem decides_casingCycleTest (s : State) : Decides s s.casingCycleTest := by
  unfold State.casingCycleTest
  split
  · rename_i r h
    split
    · exact (decides_casing s _ _ (by rw [h]; rfl)).trans (decides_stagingDecide _)
    · exact Decides.refl s
  all_goals exact Decides.refl s

/-- The jacket release. -/
theorem decides_jacketReleaseTest (s : State) : Decides s s.jacketReleaseTest := by
  unfold State.jacketReleaseTest
  split
  · rename_i r h
    split
    · exact (decides_stop s _ s.dlv.jackets (by rw [h]; rfl)).trans (decides_bpTest _ _)
    · exact Decides.refl s
  all_goals exact Decides.refl s

theorem decides_setJacketResult (s : State) (r : Nat) (res : JacketResult) :
    Decides s (s.setJacketResult r res) :=
  decides_updBook s r _ (fun _ => ⟨rfl, fun _ h => h⟩)

theorem decides_releaseUnjacketed (s : State) (x : Book) (h : s.dlv.stop.record? = some x.slot) :
    Decides s (s.releaseUnjacketed x) := by
  unfold State.releaseUnjacketed
  split
  · exact ((decides_setJacketResult s _ _).trans
      (decides_stop (s.setJacketResult x.slot .unjacketed) (.done x.slot) s.dlv.jackets
        (show some x.slot = s.dlv.stop.record? from h.symm))).trans (decides_jacketReleaseTest _)
  · exact (decides_stop s (.done x.slot) s.dlv.jackets (by rw [h]; rfl)).trans
      (decides_jacketReleaseTest _)

theorem decides_decideStop (s : State) (x : Book) (timer : Option Timer)
    (h : s.dlv.stop.record? = some x.slot) : Decides s (s.decideStop x timer) := by
  unfold State.decideStop
  split
  · exact decides_releaseUnjacketed s x h
  · split
    · exact decides_stop s _ s.dlv.jackets (by rw [h]; rfl)
    · split
      · unfold State.beginJacketCycle
        refine (decides_updBook s x.slot (fun b => { b with marriedJacket := some _ })
          (fun _ => ⟨rfl, fun _ h => h⟩)).trans (decides_stop _ _ _ ?_)
        exact h.symm
      all_goals first
        | exact decides_stop s _ s.dlv.jackets (by rw [h]; rfl)
        | exact decides_releaseUnjacketed s x h

/-- The jacket stop decision. -/
theorem decides_jacketDecide (s : State) : Decides s s.jacketDecide := by
  unfold State.jacketDecide
  split
  · rename_i r timer h
    split
    · split
      · rename_i x hx
        refine decides_decideStop s x timer ?_
        rw [h, State.slot_of_book? hx]
        rfl
      · exact Decides.refl s
    · exact Decides.refl s
  all_goals exact Decides.refl s

theorem decides_announce (s : State) : Decides s s.announce :=
  (decides_stagingDecide s).trans (decides_jacketDecide _)

/-- The index command. -/
theorem decides_pressTest (s : State) : Decides s s.pressTest := by
  unfold State.pressTest
  split
  · constructor <;> intros <;> first | rfl | exact Or.inl rfl | exact decided_refl _
  · exact Decides.refl s

/-! ### The end of a drain -/

theorem JacketStop.stopTimer_record (x : JacketStop) : x.stopTimer.record? = x.record? := by
  cases x <;> rfl

theorem decides_stopZoneTimers (s : State) (z : Zone) : Decides s (s.stopZoneTimers z) := by
  unfold State.stopZoneTimers
  split
  · split
    · exact Decides.refl s
    · exact decides_staging s _ s.stg.cases
  · split
    · exact Decides.refl s
    · exact decides_stop s _ s.dlv.jackets (JacketStop.stopTimer_record _)
  all_goals exact Decides.refl s

theorem decides_drainTest (s : State) (z : Zone) : Decides s (s.drainTest z) := by
  unfold State.drainTest
  split
  · rename_i h
    unfold State.setZone
    refine Decides.trans ?_ (decides_stopZoneTimers _ z)
    have hd : (s.zones.get z).state = .draining := by
      simp only [Bool.and_eq_true] at h
      exact of_decide_eq_true h.1
    constructor <;> intros <;> try first | rfl | exact .inl rfl | exact decided_refl _
    rename_i y
    simp only [Zones.get_set]
    split
    · rename_i e; subst e; exact .inr ⟨hd, rfl⟩
    · exact .inl rfl
  · exact Decides.refl s

theorem decides_drainTests (s : State) : Decides s s.drainTests :=
  (((decides_drainTest s .a).trans (decides_drainTest _ .b)).trans (decides_drainTest _ .p)).trans
    (decides_drainTest _ .c)

/-- All that follows a change on the belts. -/
theorem decides_follow (s : State) : Decides s s.follow :=
  ((((decides_bpTests s).trans (decides_casingReleaseTest _)).trans (decides_announce _)).trans
    (decides_jacketReleaseTest _)).trans (decides_drainTests _)

end Sys2Proof.Machine
end

