-- ==== Sys2Proof/Laws/Line.lean ====
section
/-! SUPPORT. Once, what the tests of a count and the moves of records leave as it was: retirement, fault
reports, the gauging of a record, the watch points' heads, and all that follows them. -/

namespace Sys2Proof.Machine

/-- What the line's own operations leave as it was: the queue of commands, the clock, the configuration,
the link, the readers, the Admit Set, the points and the arming, the belts but for their back-pressure
and their report of back-travel, and the eyes' captures. No zone becomes RUNNING or DRAINING. -/
structure Line (s t : State) : Prop where
  pending : t.pending = s.pending
  clock : t.clock = s.clock
  cause : t.cause = s.cause
  cfg : t.cfg = s.cfg
  link : t.link = s.link
  readers : t.readers = s.readers
  admitSet : t.admitSet = s.admitSet
  io : t.io = s.io
  belts : ∀ z, { t.belt z with
    backPressure := (s.belt z).backPressure, backReported := (s.belt z).backReported } = s.belt z
  eyes : t.trk.eyes = s.trk.eyes
  periodStart : t.trk.periodStart = s.trk.periodStart
  held : t.gauge.held = s.gauge.held
  active : ∀ z, t.active z = true → s.active z = true

theorem Line.refl (s : State) : Line s s := by constructor <;> intros <;> first | rfl | assumption

theorem Line.trans {s t u : State} (h : Line s t) (g : Line t u) : Line s u where
  pending := g.pending.trans h.pending
  clock := g.clock.trans h.clock
  cause := g.cause.trans h.cause
  cfg := g.cfg.trans h.cfg
  link := g.link.trans h.link
  readers := g.readers.trans h.readers
  admitSet := g.admitSet.trans h.admitSet
  io := g.io.trans h.io
  belts := fun z => by
    have h1 := h.belts z
    have g1 := g.belts z
    rw [← h1, ← g1]
  eyes := g.eyes.trans h.eyes
  periodStart := g.periodStart.trans h.periodStart
  held := g.held.trans h.held
  active := fun z hz => h.active z (g.active z hz)

theorem ZoneCtl.Drains.active {k m : ZoneCtl} (h : k.Drains m)
    (hm : m.state = .running ∨ m.state = .draining) : k.state = .running ∨ k.state = .draining := by
  rcases h with rfl | ⟨hk, rfl⟩
  · exact hm
  · exact .inr hk

/-- A decision is an operation of the line. -/
theorem Decides.line {s t : State} (h : Decides s t) : Line s t where
  pending := h.pending
  clock := h.clock
  cause := h.cause
  cfg := h.cfg
  link := h.link
  readers := h.readers
  admitSet := h.admitSet
  io := h.io
  belts := fun z => by
    have h1 := h.belts z
    rw [← h1]
  eyes := h.eyes
  periodStart := h.periodStart
  held := by rw [h.gauge]
  active := fun z hz => by
    exact decide_eq_true ((h.zones z).active (of_decide_eq_true hz))

/-- An update that leaves every field that `Line` speaks of. -/
theorem line_of_eq {s t : State} (h1 : t.pending = s.pending) (h2 : t.clock = s.clock)
    (h3 : t.cause = s.cause) (h4 : t.cfg = s.cfg) (h5 : t.link = s.link)
    (h6 : t.readers = s.readers) (h7 : t.admitSet = s.admitSet) (h8 : t.io = s.io)
    (h9 : t.trk.belts = s.trk.belts) (h10 : t.trk.eyes = s.trk.eyes)
    (h11 : t.trk.periodStart = s.trk.periodStart) (h12 : t.gauge.held = s.gauge.held)
    (h13 : t.zones = s.zones) : Line s t where
  pending := h1
  clock := h2
  cause := h3
  cfg := h4
  link := h5
  readers := h6
  admitSet := h7
  io := h8
  belts := fun z => by simp only [State.belt, h9]
  eyes := h10
  periodStart := h11
  held := h12
  active := fun z hz => by
    have h : (t.zones.get z).state = .running ∨ (t.zones.get z).state = .draining :=
      of_decide_eq_true hz
    rw [h13] at h
    exact decide_eq_true h

theorem line_updBook (s : State) (r : Nat) (f : Book → Book) : Line s (s.updBook r f) := by
  apply line_of_eq <;> rfl

theorem line_updOrder (s : State) (n : Nat) (f : Order → Order) : Line s (s.updOrder n f) := by
  apply line_of_eq <;> rfl

theorem line_setGauging (s : State) (g : Option Gauging) : Line s (s.setGauging g) := by
  apply line_of_eq <;> rfl

theorem line_setOpened (s : State) (w : Watch) (v : Bool) : Line s (s.setOpened w v) := by
  apply line_of_eq <;> rfl

theorem line_setSide (s : State) (x : StagingSide) : Line s (s.setSide x) := by
  apply line_of_eq <;> rfl

theorem line_setCasing (s : State) (x : CasingSide) : Line s (s.setCasing x) := by
  apply line_of_eq <;> rfl

theorem line_setStop (s : State) (x : JacketStop) : Line s (s.setStop x) := by
  apply line_of_eq <;> rfl

theorem line_unreserve (s : State) : Line s s.unreserve := by apply line_of_eq <;> rfl

theorem line_setBackReported (s : State) (z : Belt) :
    Line s (s.setBelt z { s.belt z with backReported := true }) := by
  constructor <;> try first | rfl | (intros; assumption)
  intro y
  rw [State.belt_setBelt]
  split
  · rename_i h; subst h; rfl
  · rfl

/-! ### Faults and retirement -/

theorem line_setZone (s : State) (z : Zone) (k : ZoneCtl)
    (h : k.state ≠ .running ∧ k.state ≠ .draining) :
    Line s { s with zones := s.zones.set z k } := by
  constructor <;> try first | rfl | (intros; rfl)
  intro y hy
  have g : ((s.zones.set z k).get y).state = .running ∨ ((s.zones.set z k).get y).state = .draining :=
    of_decide_eq_true hy
  rw [Zones.get_set] at g
  split at g
  · rcases g with g | g
    · exact absurd g h.1
    · exact absurd g h.2
  · exact decide_eq_true g

/-- A fault report. -/
theorem line_fault (s : State) (z : Zone) (c : FaultCode) : Line s (s.fault z c) := by
  unfold State.fault
  dsimp only
  split
  · exact (line_setZone s z _ ⟨by simp, by simp⟩).trans (decides_stopZoneTimers _ z).line
  · exact (line_setZone s z _ ⟨by simp, by simp⟩).trans (decides_stopZoneTimers _ z).line
  · exact (line_setZone s z _ ⟨by simp, by simp⟩).trans (decides_stopZoneTimers _ z).line
  · rename_i h
    exact line_setZone s z _ ⟨by simp [h], by simp [h]⟩
  · rename_i h
    split <;> exact line_setZone s z _ ⟨by simp [h], by simp [h]⟩

theorem line_leaveCollections (s : State) (r : Nat) : Line s (s.leaveCollections r) := by
  apply line_of_eq <;> rfl

theorem line_accountRetirement (s : State) (b : Book) (out : BookOutcome) :
    Line s (s.accountRetirement b out) := by
  unfold State.accountRetirement
  split
  · exact line_updOrder s _ _
  · exact Line.refl s

theorem line_endGaugingOf (s : State) (r : Nat) : Line s (s.endGaugingOf r) := by
  unfold State.endGaugingOf
  split
  · split
    · apply line_of_eq <;> rfl
    · exact Line.refl s
  · exact Line.refl s

/-- A retirement. -/
theorem line_retire (s : State) (r : Nat) (out : BookOutcome) : Line s (s.retire r out) := by
  unfold State.retire
  split
  · split
    · dsimp only
      refine Line.trans ?_ (line_endGaugingOf _ r)
      refine Line.trans ?_ (line_accountRetirement _ _ out)
      apply line_of_eq <;> rfl
    · exact Line.refl s
  · exact Line.refl s

/-! ### Identification and gauging -/

theorem line_runVerdict (s : State) (r : Nat) : Line s (s.runVerdict r) := line_updBook s r _

theorem line_unbind (s : State) (r : Nat) (why : Reason) : Line s (s.unbind r why) :=
  line_updBook s r _

theorem line_bind (s : State) (r : Nat) (i : Ident) (o : Order) : Line s (s.bind r i o) := by
  unfold State.bind
  dsimp only
  split
  · split
    · exact ((line_updBook s r _).trans (line_updOrder _ _ _)).trans (line_runVerdict _ r)
    · exact (line_updBook s r _).trans (line_updOrder _ _ _)
  · exact (line_updBook s r _).trans (line_updOrder _ _ _)

theorem line_identifyAs (s : State) (r : Nat) (i : Ident) : Line s (s.identifyAs r i) := by
  unfold State.identifyAs
  split
  · split
    · split
      · exact line_unbind s r _
      · exact line_updBook s r _
      · exact line_bind s r i _
    · exact Line.refl s
  · exact Line.refl s

theorem line_identifyWindow (s : State) (r : Nat) (w : ReadWindow) :
    Line s (s.identifyWindow r w) := by
  unfold State.identifyWindow
  dsimp only
  split
  · exact (line_updBook s r _).trans (line_unbind _ r _)
  · split
    · exact ((line_updBook s r _).trans (line_updBook _ r _)).trans (line_identifyAs _ r _)
    · exact (line_updBook s r _).trans (line_unbind _ r _)

theorem line_finishGauging (s : State) (r : Nat) : Line s (s.finishGauging r) :=
  (((line_updBook s r _).trans (line_runVerdict _ r)).trans (line_updBook _ r _)).trans
    (line_setGauging _ none)

theorem line_completionTest (s : State) : Line s s.completionTest := by
  unfold State.completionTest
  split
  · split
    · split
      · exact line_finishGauging s _
      · exact Line.refl s
    · exact Line.refl s
  · exact Line.refl s

theorem line_closeWindow (s : State) : Line s s.closeWindow := by
  unfold State.closeWindow
  split
  · split
    · exact (line_setGauging s _).trans (line_identifyWindow _ _ _)
    · exact Line.refl s
  · exact Line.refl s

theorem line_endLength (s : State) : Line s s.endLength := by
  unfold State.endLength
  split
  · split
    · exact line_setGauging s _
    · exact Line.refl s
  · exact Line.refl s

theorem line_settleSamples (s : State) : Line s s.settleSamples := by
  unfold State.settleSamples
  split
  · exact line_updBook s _ _
  · exact Line.refl s

theorem line_forceCompletion (s : State) : Line s s.forceCompletion :=
  (((line_closeWindow s).trans (line_settleSamples _)).trans (line_endLength _)).trans
    (line_completionTest _)

theorem line_sampleTest (s : State) : Line s s.sampleTest := by
  unfold State.sampleTest
  split
  · split
    · split
      · exact (line_updBook s _ _).trans (line_completionTest _)
      · exact Line.refl s
    · exact Line.refl s
  · exact Line.refl s

theorem line_spanTest (s : State) : Line s s.spanTest := by
  unfold State.spanTest
  split
  · split
    · split
      · exact ((line_endLength s).trans (line_fault _ _ _)).trans (line_completionTest _)
      · exact Line.refl s
    · exact Line.refl s
  · exact Line.refl s

theorem line_windowTest (s : State) : Line s s.windowTest := by
  unfold State.windowTest
  split
  · split
    · split
      · exact (line_closeWindow s).trans (line_completionTest _)
      · exact Line.refl s
    · exact Line.refl s
  · exact Line.refl s

theorem line_gaugeTests (s : State) (z : Belt) : Line s (s.gaugeTests z) := by
  cases z
  · exact ((line_sampleTest s).trans (line_spanTest _)).trans (line_windowTest _)
  · exact Line.refl s
  · exact Line.refl s

/-! ### Watch points -/

theorem line_setLane (s : State) (b : Book) : Line s (s.setLane b) := by
  have h (t : State) (c : Bool) (f : Order → Order) (hl : Line s t) :
      Line s (if c then (match b.order? with | some n => t.updOrder n f | none => t) else t) := by
    cases c
    · exact hl
    · cases b.order? with
      | none => exact hl
      | some n => exact hl.trans (line_updOrder t n f)
  unfold State.setLane
  split
  · exact Line.refl s
  · exact (h _ _ _ (line_updBook s b.slot _)).trans (line_of_eq rfl rfl rfl rfl rfl rfl rfl rfl rfl
      rfl rfl rfl rfl)

theorem line_openWindow (s : State) (w : Watch) (b : Book) : Line s (s.openWindow w b) := by
  have h := line_setOpened s w true
  cases w <;> unfold State.openWindow <;> dsimp only
  · split
    · split
      · exact h.trans (line_forceCompletion _)
      · exact h
    · exact h
  · exact h
  · exact h
  · exact h
  · exact h.trans (line_setLane _ b)

theorem line_loseHead (s : State) (w : Watch) (b : Book) : Line s (s.loseHead w b) := by
  unfold State.loseHead
  dsimp only
  refine Line.trans ?_ (line_setOpened _ w false)
  refine Line.trans ?_ (line_fault _ _ _)
  refine (line_retire s b.slot .lost).trans ?_
  cases w
  case casing => exact line_unreserve _
  all_goals exact Line.refl _

theorem line_testHead (fuel : Nat) (s : State) (w : Watch) : Line s (s.testHead fuel w) := by
  induction fuel generalizing s with
  | zero => exact Line.refl s
  | succ n ih =>
    unfold State.testHead
    split
    · exact Line.refl s
    · split
      · split
        · exact Line.refl s
        · exact line_openWindow s w _
      · split
        · exact (line_loseHead s w _).trans (ih _)
        · exact Line.refl s

theorem line_newHead (s : State) (w : Watch) : Line s (s.newHead w) :=
  (line_setOpened s w false).trans (line_testHead _ _ w)

theorem line_retest (s : State) (w : Watch) : Line s (s.retest w) := line_testHead _ s w

theorem line_missingTest (s : State) (w : Watch) : Line s (s.missingTest w) := by
  unfold State.missingTest
  split
  · split
    · exact (line_loseHead s w _).trans (line_testHead _ _ w)
    · exact Line.refl s
  · exact Line.refl s

theorem line_openTest (s : State) (w : Watch) : Line s (s.openTest w) := by
  unfold State.openTest
  split
  · split
    · exact line_openWindow s w _
    · exact Line.refl s
  · exact Line.refl s

theorem line_follow (s : State) : Line s s.follow := (decides_follow s).line

theorem line_backTravelTest (s : State) (z : Belt) : Line s (s.backTravelTest z) := by
  unfold State.backTravelTest
  dsimp only
  split
  · exact (line_setBackReported s z).trans (line_fault _ _ _)
  · exact Line.refl s

/-- The tests of an up-count. -/
theorem line_upTests (s : State) (z : Belt) : Line s (s.upTests z) := by
  have hw (s : State) (w : Watch) : Line s ((s.openTest w).missingTest w) :=
    (line_openTest s w).trans (line_missingTest _ w)
  have h := line_gaugeTests s z
  unfold State.upTests
  cases z
  · exact h.trans (hw _ _)
  · exact h.trans ((hw _ _).trans (hw _ _))
  · exact h.trans ((hw _ _).trans (hw _ _))

/-- The tests of a down-count. -/
theorem line_downTests (s : State) (z : Belt) : Line s (s.downTests z) := by
  have h := line_backTravelTest s z
  unfold State.downTests
  cases z
  · exact h.trans (line_openTest _ _)
  · exact h.trans ((line_openTest _ _).trans (line_openTest _ _))
  · exact h.trans ((line_openTest _ _).trans (line_openTest _ _))

/-- Once a configuration is in force, what SET CONFIG does is an operation of the line. -/
theorem line_configure (s : State) (c : Cfg) : Line (s.putCfg c) (s.configure c) := by
  have hr (s : State) : Line s s.recomputePeriod := by apply line_of_eq <;> rfl
  have hw (s : State) (ws : List Watch) : Line s (ws.foldl State.retest s) := by
    induction ws generalizing s with
    | nil => exact Line.refl s
    | cons w ws ih => exact (line_retest s w).trans (ih _)
  exact (hw _ _).trans (((decides_bpTests _).line).trans ((hr _).trans (line_follow _)))

end Sys2Proof.Machine
end

