-- ==== Sys2Proof/Laws/Time.lean ====
section
/-! SUPPORT. Once, what the idle step does: nothing but the clock when nothing is due, and the effect of a
timer that alone is due. -/

namespace Sys2Proof.Machine

theorem State.expireIfDue_not_due {s : State} {o : Option Timer} {f : State → State}
    (h : ∀ t, o = some t → t.due s.clock = false) : s.expireIfDue o f = s := by
  unfold State.expireIfDue
  split
  · simp [h _ rfl]
  · rfl

theorem State.expireIfDue_due {s : State} {o : Option Timer} {t : Timer} {f : State → State}
    (e : o = some t) (h : t.due s.clock = true) : s.expireIfDue o f = f s := by
  simp [State.expireIfDue, e, h]

/-- A timed command whose timer has run for its time has its effect, and does not move the clock. -/
theorem State.expire_due {s : State} {o : Option Timer} {t : Timer} {f : State → State}
    (e : o = some t) (h : t.due s.clock = true) : s.expire o f = f s := by
  simp [State.expire, State.reach, e, h]

/-- The expiries of a list of timers, one after another. -/
def State.expiries (l : List ((State → Option Timer) × (State → State))) (s : State) : State :=
  l.foldl (fun (t : State) p => t.expireIfDue (p.1 t) p.2) s

theorem State.tick_eq (s : State) :
    s.tick = (State.expiries timedEffects { s with clock := s.clock + 1#32 }).pressTest := rfl

/-- With none of its timers due, a list of expiries does nothing. -/
theorem State.expiries_none (l : List ((State → Option Timer) × (State → State))) (s : State)
    (h : ∀ p ∈ l, ∀ t, p.1 s = some t → t.due s.clock = false) : State.expiries l s = s := by
  induction l with
  | nil => rfl
  | cons p l ih =>
    show State.expiries l (s.expireIfDue (p.1 s) p.2) = s
    rw [State.expireIfDue_not_due (h p (by simp))]
    exact ih fun q hq => h q (by simp [hq])

/-- A list of expiries with one timer due has that timer's effect, where none behind it is then due. -/
theorem State.expiries_one (a b : List ((State → Option Timer) × (State → State)))
    (p : (State → Option Timer) × (State → State)) (s : State) (t : Timer) (e : p.1 s = some t)
    (hd : t.due s.clock = true) (ha : ∀ q ∈ a, ∀ t, q.1 s = some t → t.due s.clock = false)
    (hb : ∀ q ∈ b, ∀ t, q.1 (p.2 s) = some t → t.due (p.2 s).clock = false) :
    State.expiries (a ++ p :: b) s = p.2 s := by
  have h : State.expiries (a ++ p :: b) s =
      State.expiries b ((State.expiries a s).expireIfDue (p.1 (State.expiries a s)) p.2) := by
    simp [State.expiries]
  rw [h, State.expiries_none a s ha, State.expireIfDue_due e hd]
  exact State.expiries_none b _ hb

/-- Every timer that runs is one of `State.timers`. -/
theorem State.mem_timers {s : State} {p : (State → Option Timer) × (State → State)} {t : Timer}
    (hp : p ∈ timedEffects) (h : p.1 s = some t) : t ∈ s.timers :=
  List.mem_filterMap.2 ⟨p, hp, h⟩

/-- The test for an index is the command INDEX_COMMAND where an index is due, and nothing elsewhere. -/
theorem State.pressTest_outcome (t : State) :
    (.next t.pressTest : Host.Outcome State Fault Refusal) =
      if t.indexReady && t.indexDue then exec .indexCommand t else .next t := by
  by_cases h : (t.indexReady && t.indexDue) = true
  · rw [if_pos h]
    simp only [Bool.and_eq_true] at h
    show _ = execIndexCommand t
    unfold execIndexCommand
    rw [if_pos h.1]
    split
    · rename_i u hu
      have hd : u.due t.clock = true := by simpa [State.indexDue, hu] using h.2
      simp [State.reach, hd]
    · rfl
  · rw [if_neg h]
    simp [State.pressTest, h]

end Sys2Proof.Machine
end

