-- ==== Sys2Proof/WellFormed.lean ====
section
/-! DEFINITION. Which commands can occur: a check for each way a term of `Instr` could stand for no
command of the spec. -/

namespace Sys2Proof

/-- A request body fits a frame: L counts the code and the body and is at most 250 (R162). -/
def bodyFits (body : List Byte) : Bool := decide (body.length ≤ 249)

/-- A command that the spec gives: a request body fits a frame (R162), an unknown request's code is not
in the table of 10.3 (R164), and EYE_TRAILING_EDGE is of an eye other than GAUGE, whose trailing edge is
a row of its own (R64). -/
def Instr.wf : Instr → Bool
  | .unknownRequest code body => bodyFits body && !(requestCodes.contains code)
  | .status body => bodyFits body
  | .readConfig body => bodyFits body
  | .setConfig body => bodyFits body
  | .setPoint body => bodyFits body
  | .readPoints body => bodyFits body
  | .loadOrder body => bodyFits body
  | .amendOrder body => bodyFits body
  | .holdOrder body => bodyFits body
  | .resumeOrder body => bodyFits body
  | .closeOrder body => bodyFits body
  | .readOrder body => bodyFits body
  | .readCopyMap body => bodyFits body
  | .admitAdd body => bodyFits body
  | .admitClear body => bodyFits body
  | .readBook body => bodyFits body
  | .findBook body => bodyFits body
  | .listOutcomes body => bodyFits body
  | .collect body => bodyFits body
  | .markReject body => bodyFits body
  | .zoneRun body => bodyFits body
  | .zoneStop body => bodyFits body
  | .zoneHalt body => bodyFits body
  | .purge body => bodyFits body
  | .clearFaults body => bodyFits body
  | .rearmOutputs body => bodyFits body
  | .trackingReset body => bodyFits body
  | .restart body => bodyFits body
  | .eyeTrailingEdge e => e != .gauge
  | .powerOn | .linkByteReceived _ | .linkGapTimeout | .responseSent | .readerCharacter _ _ _
  | .readerGapTimeout _ | .gaugeReading _ | .encoderPhaseChange _ _ _ | .backTravel _ | .samplePoint
  | .spanOverrun | .readWindowClose | .watchWindowOpen _ | .headMissing _ | .gaugeLeadingEdge
  | .gaugeTrailingEdge | .watchPointArrival _ | .releaseEyeEdge | .rejectEyeEdge
  | .casingExitEyeEdge | .unloadEyeEdge | .jacketExitEyeEdge | .caseFed | .caseEjected | .casingDone
  | .casingFault | .indexDone | .jacketFed | .jacketEjected | .jacketDone | .jacketFault
  | .guardOpens | .guardCloses | .drainEnd _ | .stagingHeadDecision | .jacketStopDecision
  | .casingCycleBegin | .casingReleaseCommand | .jacketReleaseCommand | .indexCommand
  | .stagingReleaseTimeout | .casingReleaseTimeout | .caseEjectTimeout | .casingTimeout
  | .earlyHoldExpiry | .caseWaitExpiry | .indexTimeout | .unloadGraceExpiry | .jacketEjectTimeout
  | .jacketCycleTimeout | .jacketReleaseTimeout | .jacketWaitExpiry | .speedPeriod => true

end Sys2Proof
end

