-- ==== Sys2Proof/Tests/Slice0.lean ====
section
/-! SUPPORT. Tests: ill-formed commands are refused, the spec's worked examples come out as it gives them,
and for each statement that has hypotheses a concrete state and operands that meet them, clause by
clause. -/

namespace Sys2Proof.Tests

open Sys2Proof Sys2Proof.Machine

/-! ### States to test with -/

/-- Runs commands one after another. -/
def after (cs : List Instr) (s : State) : State :=
  match runAll cs s with
  | .next t => t
  | .fault _ => s
  | .refused _ => s

def bytes (l : List Nat) : List Byte := l.map (BitVec.ofNat 8)

/-- Characters as bytes. -/
def text (t : String) : List Byte := t.toList.map (fun c => BitVec.ofNat 8 c.toNat)

/-- A scan of a port, ended by a carriage return. -/
def scan (p : Port) (t : String) : List Instr :=
  (text t ++ [0x0D#8]).map (fun c => .readerCharacter p c false)

/-- The four zones in one state, with one latched code. -/
def zonesAt (st : ZoneState) (code : Option FaultCode) : Zones :=
  ⟨⟨st, code, false⟩, ⟨st, code, false⟩, ⟨st, code, false⟩, ⟨st, code, false⟩⟩

/-- A belt that has counted with the configuration in force, and stands at count 0. -/
def counting : BeltState := { BeltState.initial (false, false) with counted := true }

/-- The line ready: the guard closed, the outputs armed, every point in a suitable mode, every zone
RUNNING. -/
def line : State := { State.reset with
  zones := zonesAt .running none
  trk := { State.reset.trk with belts := ⟨counting, counting, counting⟩ }
  io := ⟨(List.range 48).map (fun i => { Point.atPowerOn (i + 1) (i == 26) with
    mode := if i < 27 then .input else .sink }), true, true⟩ }

def lineAt (st : ZoneState) (code : Option FaultCode) : State := { line with zones := zonesAt st code }

/-- The template of the worked lifecycle (03_book_records). -/
def tmpl : Template :=
  ⟨204518, .copyExact, 26250, 50, 250, 60, 3050, 25, false, 45000, .required, false⟩

def zero : Counters := ⟨0, 0, 0, 0, 0, 0, 0, 0, 0⟩

/-- Order 204518 with 8 copies. -/
def order : Order := ⟨1, tmpl, 8, .openOrder, zero, false, false, List.replicate 8 .notSeen⟩

/-- The order of a number, in a slot. -/
def entry (n slot : Nat) : Order := { order with slot := slot, tmpl := { tmpl with order := n } }

def block (copy : Nat) : Ident := ⟨204518, copy, .blockItem⟩
def kase (copy : Nat) : Ident := ⟨204518, copy, .caseItem⟩
def jacket (copy : Nat) : Ident := ⟨204518, copy, .jacketItem⟩

/-- A bound record of a copy of order 204518, in a lifecycle state. -/
def book (slot copy : Nat) (l : Life) : Book := { newBook slot slot 0#32 0#16 with
  ident := some (block copy), binding := some .bound, tmpl := some tmpl, life := l }

/-- The line with order 204518 and some records. -/
def withBooks (bs : List Book) : State :=
  { line with orders := [order], table := { line.table with books := bs } }

/-! ### Which commands can occur -/

/-- Each request, with a body. -/
def requests (body : List Byte) : List Instr :=
  (0x07#8 :: requestCodes).map (fun c => requestOf c body)

theorem test_wf_refuses_long_bodies :
    ∀ i ∈ requests (List.replicate 250 0#8), i.wf = false := by decide +kernel

theorem test_wf_accepts_full_bodies :
    ∀ i ∈ requests (List.replicate 249 0#8), i.wf = true := by decide +kernel

theorem test_wf_refuses_known_code :
    ∀ c ∈ requestCodes, (Instr.unknownRequest c []).wf = false := by decide +kernel

theorem test_wf_refuses_gauge_trailing : (Instr.eyeTrailingEdge .gauge).wf = false := by decide

theorem test_wf_accepts_other_eyes :
    ∀ e ∈ [Eye.stageEntry, .release, .outfeed], (Instr.eyeTrailingEdge e).wf = true := by decide

/-! ### The queue and the table's words -/

/-- No row of the table gives bits. -/
theorem test_word_spells_none : decodeTableWord 8 0x01 = none ∧
    State.reset.withFetchWord 8 0x01 = State.reset := by decide +kernel

theorem test_step_takes_front :
    (match step { line with pending := [.guardCloses, .samplePoint] } with
      | .next t => t.pending
      | .fault _ => []
      | .refused _ => []) = [.samplePoint] := by decide +kernel

theorem test_idle_step_ticks :
    (match step line with
      | .next t => t.clock
      | .fault _ => 0#32
      | .refused _ => 0#32) = 1#32 := by decide +kernel

/-! ### Identifiers, readers and the Admit Set (01_identifiers_and_reading) -/

theorem test_ident_example :
    judgeText (text "2045180007B6") 12 = .valid (block 7) ∧
    judgeText (text "2045180007C3") 12 = .valid (kase 7) ∧
    judgeText (text "2045180007J0") 12 = .valid (jacket 7) ∧
    judgeText (text "2045180007C4") 12 = .badCheck ∧
    judgeText (text "0000000007B6") 12 = .badForm := by decide +kernel

theorem test_ident_text : identText (block 5) = text "2045180005B8" ∧
    identText (kase 5) = text "2045180005C5" ∧ identText (jacket 5) = text "2045180005J2" := by
  decide +kernel

theorem test_admit_index : admitIndex 204518 = 302 ∧ admitIndex 310022 = 452 ∧
    admitIndex 270054 = 302 := by decide +kernel

/-- The example sequence of the case port. -/
theorem test_case_port_sequence :
    (after (scan .casePort "2045180008C2" ++ [.readerCharacter .casePort 0x0A#8 false] ++
      scan .casePort "2045180008C2" ++ [.caseFed] ++ scan .casePort "2045180007C4" ++ [.caseFed] ++
      scan .casePort "2045180007C3" ++ scan .casePort "3100220001C5" ++
      scan .casePort "2045180007C3" ++ [.caseFed]) line).stg.cases.map (·.identity) =
      [.ident (kase 8), .unreadable, .conflict] := by decide +kernel

theorem test_reader_gap_empties :
    (after [.readerCharacter .jacketPort 0x32#8 false, .readerGapTimeout .jacketPort] line).readers.jacketText
      = RxText.none := by decide +kernel

theorem test_gauge_reading_saturates :
    (after [.gaugeReading 65535] line).gauge.held = some 10000 := by decide +kernel

/-! ### The supervisor link (10_supervisor_link) -/

/-- A request refused for its code: A5 01 07 F8 is answered 5A 02 87 01 76. -/
theorem test_unknown_request_frame :
    (after ((bytes [0xA5, 0x01, 0x07, 0xF8]).map .linkByteReceived) line).link.response =
      bytes [0x5A, 0x02, 0x87, 0x01, 0x76] := by decide +kernel

theorem test_bad_check_is_dropped :
    (after ((bytes [0xA5, 0x01, 0x07, 0xF9]).map .linkByteReceived) line).link.rx = .hunting := by
  decide +kernel

theorem test_request_frame_of_status : requestFrame 0x01#8 [] = bytes [0xA5, 0x01, 0x01, 0xFE] ∧
    requestOf 0x01#8 [] = .status [] := by decide +kernel

theorem test_link_gap_discards :
    (after [.linkByteReceived 0xA5#8, .linkByteReceived 2#8, .linkGapTimeout] line).link.rx = .hunting := by
  decide +kernel

theorem test_restart_follows_response :
    (after [.restart []] line).cause = .powerOn ∧
    (after [.restart [], .responseSent] line).cause = .requested ∧
    (after [.restart [], .responseSent] line).io.armed = false := by decide +kernel

theorem test_read_config_answers :
    ((after [.readConfig []] line).link.response.take 10) =
      bytes [0x5A, 80, 0x82, 0x00, 0, 125, 0, 125, 0, 125] := by decide +kernel

/-! ### Zones, guard and points (09_zones_guard_and_field_points) -/

/-- First start after power-on, with the guard point active. -/
theorem test_first_start :
    let s := after [.guardCloses] State.reset
    (after [.zoneRun [0#8]] s).link.response.take 4 = bytes [0x5A, 2, 0xB0, 0x09] ∧
    (after [.rearmOutputs [], .responseSent, .zoneRun [0#8]] s).link.response.take 5 =
      bytes [0x5A, 3, 0xB0, 0x0A, 28] ∧
    (after [.rearmOutputs [], .responseSent, .setPoint (bytes [28, 3, 0, 0]), .responseSent,
      .setPoint (bytes [31, 3, 0, 0]), .responseSent, .zoneRun [0#8]] s).zoneState .a = .running := by
  decide +kernel

/-- A fault during a trip. -/
theorem test_fault_during_trip :
    let s := (after [.guardOpens] { line with
      zones := { line.zones with a := ⟨.faulted, some .crowded, false⟩ } }).fault .c .missing
    s.zones.c = ⟨.tripped, some .missing, false⟩ ∧ s.zones.a = ⟨.tripped, some .crowded, false⟩ ∧
    (after [.guardCloses, .rearmOutputs []] s).zones.a = ⟨.faulted, some .crowded, false⟩ ∧
    (after [.guardCloses, .rearmOutputs [], .responseSent, .clearFaults (bytes [2, 0, 3])] s).zones.c =
      ⟨.stopped, none, false⟩ := by decide +kernel

theorem test_guard_stops_outputs :
    line.driven 28 = true ∧ (after [.guardOpens] line).driven 28 = false := by decide +kernel

theorem test_zone_stop_of_empty_zone : (after [.zoneStop [2#8]] line).zoneState .p = .stopped := by
  decide +kernel

/-! ### Tracking (04_conveyor_tracking) -/

theorem test_encoder_forward_cycle :
    let s := after [.encoderPhaseChange .a true false, .encoderPhaseChange .a true true,
      .encoderPhaseChange .a false true] line
    (s.belt .a).count = 3#16 ∧
    ((after [.encoderPhaseChange .a true true] s).belt .a).count = 2#16 := by decide +kernel

theorem test_encoder_step_fault :
    (after [.encoderPhaseChange .b true true] line).zones.b = ⟨.faulted, some .encoder, false⟩ := by
  decide +kernel

/-- A record of zone C in a lifecycle state, with its reference. -/
def onC (slot copy : Nat) (l : Life) (ref : Nat) : Book :=
  { book slot copy l with position := some (.c, BitVec.ofNat 16 ref) }

/-- The line with zone C's count and the delivery list of the book lost at the outfeed. -/
def outfeedAt (n : Nat) : State := { withBooks [onC 10 1 .toOutfeed 64000, onC 11 2 .toOutfeed 65200] with
  table := { line.table with
    books := [onC 10 1 .toOutfeed 64000, onC 11 2 .toOutfeed 65200], delivery := [10, 11] }
  trk := { line.trk with belts := (line.trk.belts.set .c
    { line.belt .c with count := BitVec.ofNat 16 n, mark := BitVec.ofNat 16 n }) } }

/-- A book lost at the outfeed: missing at count 1485, and a late edge is then unexpected. -/
theorem test_book_lost_at_outfeed :
    let s := after [.encoderPhaseChange .c true false] (outfeedAt 1484)
    (s.book? 10).map (·.outcome) = some (some .lost) ∧ s.table.delivery = [11] ∧
    s.zones.c = ⟨.faulted, some .missing, false⟩ ∧
    (after [.watchPointArrival .outfeed] s).zones.c = ⟨.faulted, some .missing, true⟩ := by
  decide +kernel

theorem test_outfeed_window_sets_lane :
    ((after [.encoderPhaseChange .c true false] (outfeedAt 1443)).book? 10).map (·.lane) =
      some (some .good) := by decide +kernel

theorem test_speed_period :
    ((after [.speedPeriod] { line with trk := { line.trk with belts :=
      (line.trk.belts.set .a { line.belt .a with net := -7 }) } }).belt .a).speed = -4 := by decide +kernel

/-! ### Gauging and spine fit (05_gauging_and_spine_fit) -/

/-- A measured record: four samples, T and spread as R85 stores them, and Lm. -/
def measured (samples : List Nat) (lm : Nat) : Book :=
  ({ book 1 5 .gauging with
    samples := samples.map (fun v => some (sampleOf (some v))), lm := some lm } : Book).withThickness

/-- What the verdict checks store: T, spread, Sr, verdict and reason. -/
def judgedAs (b : Book) (k : Template) :
    List (Option Nat) × Option Verdict × Option Reason :=
  let c := b.judged k 40
  ([c.thickness, c.spread, c.sr], c.verdict, c.reason)

/-- The worked completion and the cases at the limits. -/
theorem test_cases_at_the_limits :
    [([2412, 2418, 2405, 2421], 26250, tmpl), ([2412, 2418, 10000, 2421], 26250, tmpl),
      ([2412, 2418, 2407, 2421], 26250, tmpl), ([2440, 2446, 2438, 2449], 26250, tmpl),
      ([2366, 2370, 2367, 2369], 26250, tmpl),
      ([2366, 2370, 2367, 2369], 26250, { tmpl with looseAccept := true }),
      ([2412, 10000, 10000, 2418], 26250, tmpl), ([2395, 2440, 2410, 2420], 26375, tmpl),
      ([2412, 2418, 2405, 2421], 26263, { tmpl with trim := 26200 })].map
        (fun (samples, lm, k) => judgedAs (measured samples lm) k) =
    [([some 2414, some 16, some 3059], some .fit, none),
      ([some 2417, some 9, some 3063], some .fit, none),
      ([some 2415, some 14, some 3060], some .fit, none),
      ([some 2443, some 11, some 3090], some .tight, some .spineTight),
      ([some 2368, some 4, some 3011], some .loose, some .spineLoose),
      ([some 2368, some 4, some 3011], some .looseOk, none),
      ([none, none, none], none, some .gaugeFail),
      ([some 2416, some 45, none], none, some .spread),
      ([some 2414, some 16, none], none, some .wrongSize)] := by decide +kernel

/-- The edges of the spine tolerance, from the Sr of 3059. -/
theorem test_spine_edges :
    [(3034, 25, false), (3033, 25, false), (3084, 25, false), (3109, 25, true), (3110, 25, true),
      (3059, 0, true), (3060, 0, true), (3058, 0, true)].map (fun (sn, ts, l) =>
        fitVerdict 3059 { tmpl with spine := sn, spineTol := ts, looseAccept := l }) =
      [.fit, .tight, .fit, .looseOk, .loose, .fit, .loose, .tight] := by decide +kernel

/-- The line with a count on zone A. -/
def onA (n : Nat) (s : State) : State := { s with trk := { s.trk with belts :=
  (s.trk.belts.set .a { s.belt .a with count := BitVec.ofNat 16 n, mark := BitVec.ofNat 16 n }) } }

/-- One count forward of zone A, from the phase state 0. -/
def countA : Instr := .encoderPhaseChange .a true false

/-- A block gauged in full: the lead edge, a scan, a sample and the trailing edge. -/
theorem test_gauge_lead_and_length :
    let s := after ([.gaugeLeadingEdge] ++ scan .blockPort "2045180005B8" ++ [.gaugeReading 2412])
      (onA 12000 (withBooks []))
    let sampled := after [countA] (onA 12199 s)
    let ended := after [.gaugeTrailingEdge] (onA 14100 s)
    (s.book? 1).map (·.lead) = some 12000#16 ∧ s.table.transit = [1] ∧
    (sampled.book? 1).map (·.samples) = some [some (.value 2412), none, none, none] ∧
    (ended.book? 1).map (·.lm) = some (some 26250) := by decide +kernel

/-- The window closes 400 counts behind the trail capture, and the record is bound. -/
theorem test_window_close_binds :
    let s := after ([.gaugeLeadingEdge] ++ scan .blockPort "2045180005B8") (onA 12000 (withBooks []))
    let t := after [countA] (onA 14499 (after [.gaugeTrailingEdge] (onA 14100 s)))
    (t.book? 1).map (fun b => (b.binding, b.life, b.reason)) =
      some (some .bound, .toStaging, some .gaugeFail) ∧
    t.orders.map (·.copyMap[4]?) = [some .inProcess] ∧ t.gauge.current = none := by decide +kernel

/-- A block held at the gauge: the span overrun at 5001 counts. -/
theorem test_span_overrun :
    (after [countA] (onA 35000 (after [.gaugeLeadingEdge] (onA 30000 (withBooks []))))).zones.a =
      ⟨.faulted, some .eyeBlocked, false⟩ := by decide +kernel

/-! ### Orders (02_orders, 10_supervisor_link) -/

/-- The LOAD ORDER of the example. -/
def loadBody : List Byte := beBytes 4 204518 ++ bytes [0] ++ beBytes 2 8 ++ beBytes 2 26250 ++
  beBytes 2 50 ++ beBytes 2 250 ++ bytes [60] ++ beBytes 2 3050 ++ bytes [25, 0] ++
  beBytes 4 45000 ++ bytes [1, 0]

/-- A record that waits EARLY in the staging queue. -/
def early (slot : Nat) : Book := { book slot 7 .staged with binding := some .early, tmpl := none }

/-- Loading an order with blocks already on the line: slot 2, two identified, one bound. -/
theorem test_load_identifies_early :
    let s := after [.loadOrder loadBody] { lineAt .stopped none with
      orders := [entry 1 1, entry 3 3]
      table := { line.table with books := [early 8, early 9] } }
    s.link.response.take 7 = bytes [0x5A, 5, 0x90, 0, 2, 2, 1] ∧
    (s.book? 8).map (·.binding) = some (some .bound) ∧
    (s.book? 9).map (·.reason) = some (some .duplicate) ∧
    (after [.responseSent, .loadOrder loadBody] s).link.response.take 4 = bytes [0x5A, 2, 0x90, 6] := by
  decide +kernel

/-- A rejected copy counts for its order and is REJECTED in its map (R29). -/
theorem test_retirement_counts :
    let s := { withBooks [book 1 7 .staged] with orders := [{ order with
      counters := { zero with admitted := 1, inProcess := 1 }
      copyMap := order.copyMap.set 6 .inProcess }] }
    (s.retire 1 (.rejected none)).orders.map (fun o =>
      (o.counters.inProcess, o.counters.rejected, o.copyMap[6]?)) = [(0, 1, some .rejected)] := by
  decide +kernel

/-! ### Staging (06_staging_and_casing_in) -/

/-- Bringing the case queue into block order, from ZONE RUN of zone B to the casing cycle. -/
def staging : State := { withBooks [book 61 7 .staged, book 62 8 .staged] with
  orders := [{ order with copyMap := (order.copyMap.set 6 .inProcess).set 7 .inProcess }]
  zones := { line.zones with b := ⟨.stopped, none, false⟩ }
  stg := { line.stg with
    queue := [61, 62]
    cases := [⟨.ident (kase 8), false⟩, ⟨.ident (kase 7), false⟩, ⟨.unreadable, false⟩] } }

theorem test_eject_to_reach_match :
    let s := after [.zoneRun [1#8], .responseSent] staging
    let t := after [.caseEjected] s
    s.stg.side = .ejectInFlight ⟨0#32, 2000⟩ ∧ s.driven 35 = true ∧
    t.stg.side = .forwardInFlight ⟨0#32, 2000⟩ ∧
    t.stg.cases = [⟨.ident (kase 7), true⟩, ⟨.unreadable, false⟩] ∧
    t.orders.map (·.counters.casesEjected) = [1] := by decide +kernel

/-- The release, the arrival and the cycle: case 7 is married and shot, the next head waits. -/
theorem test_release_and_cycle :
    let s := after [.zoneRun [1#8], .responseSent, .caseEjected, .releaseEyeEdge] staging
    let t := after [.encoderPhaseChange .b true false, .watchPointArrival .casing]
      { s with trk := { s.trk with belts := s.trk.belts.set .b { s.belt .b with count := 2399#16 } } }
    (s.book? 61).map (fun b => (b.life, b.marriedCase)) = some (.toCasing, some (kase 7)) ∧
    s.stg.side = .idle .casingBusy ∧
    t.stg.casing = .inCycle 61 ⟨0#32, 3000⟩ ∧ t.stg.cases = [⟨.unreadable, false⟩] ∧
    (after [.casingDone] t).stg.casing = .releasing 61 ⟨0#32, 2000⟩ := by decide +kernel

/-! ### Press (07_building_in_press) -/

/-- Dwells of 45,000, 110,000 and 150,000 ms in view give P of 2,500, 5,500 and 6,000 ms. -/
theorem test_period_over_dwells :
    let b (slot dwell : Nat) : Book :=
      { book slot slot .pressQueued with tmpl := some { tmpl with dwell := dwell } }
    let s : State := withBooks [b 1 45000, b 2 110000, b 3 150000]
    [[1], [1, 2], [1, 2, 3]].map (fun q => { s with press := { s.press with queue := q } }.periodNow) =
      [2500, 5500, 6000] := by decide +kernel

/-- A load: pocket 0 at rotation 0, rotation 1 at the INDEX_DONE, the command time as its load time. -/
theorem test_index_loads :
    let s := after [.indexCommand] { withBooks [book 1 1 .pressQueued] with
      clock := 300000#32, press := { line.press with queue := [1] } }
    let t := after [.indexDone] { s with clock := 300800#32 }
    s.driven 38 = true ∧ s.driven 39 = true ∧ s.driven 40 = false ∧ t.press.rotation = 1 ∧
    t.press.queue = [] ∧ (t.book? 1).map (·.press) = some (some ⟨0, 300000#32, 0⟩) := by decide +kernel

/-! ### Jacketing (08_jacketing_and_delivery) -/

/-- The head jacket is wanted elsewhere: the book is released UNJACKETED. -/
theorem test_jacket_elsewhere :
    let s := after [.jacketStopDecision] { withBooks [book 61 7 .atJacket, book 62 8 .toJacket] with
      orders := [{ order with copyMap := (order.copyMap.set 6 .inProcess).set 7 .inProcess }]
      dlv := { line.dlv with jackets := [.ident (jacket 8)], stop := .waiting 61 none } }
    (s.book? 61).map (·.jacketResult) = some (some .unjacketed) ∧
    s.dlv.stop = .releasing 61 ⟨0#32, 2000⟩ ∧ s.driven 44 = true := by decide +kernel

/-- A jacket cycle ended by the guard: SUSPECT, UNJACKETED, DONE, no fault. -/
theorem test_guard_ends_jacket_cycle :
    let s := after [.guardOpens] { withBooks [{ book 90 5 .atJacket with
        marriedJacket := some (jacket 5) }] with
      dlv := { line.dlv with stop := .inCycle 90 ⟨0#32, 4000⟩ } }
    (s.book? 90).map (fun b => (b.reason, b.jacketResult)) = some (some .suspect, some .unjacketed) ∧
    s.dlv.stop = .done 90 ∧ s.zones.c.code = none := by decide +kernel

/-! ### States and operands that meet the hypotheses of the statements, clause by clause -/

/-- The link while a response is being sent. -/
def answering (due : Bool) : State :=
  { line with link := { line.link with rx := .answering, restartDue := due } }

/-- The link in a receive state, with a frame buffer. -/
def receiving (rx : RxState) (buffer : List Nat) : State :=
  { line with link := { line.link with rx := rx, buffer := bytes buffer } }

theorem witness_TimePasses :
    line.pending = [] ∧ ({ line with clock := 248#32 + 1#32 } : State).Quiet ∧
    Timer.due ⟨0#32, 4294967295⟩ 4294967295#32 = true ∧
    Timer.due ⟨0#32, 4294967295⟩ 4294967294#32 = false ∧ 4294967295 < 4294967296 ∧
    (∀ t ∈ [line.linkGapTimer, line.readerGapTimer .blockPort, line.readerGapTimer .casePort,
      line.readerGapTimer .jacketPort, line.stagingReleaseTimer, line.casingReleaseTimer,
      line.caseEjectTimer, line.casingTimer, line.earlyHoldTimer, line.caseWaitTimer,
      line.indexTimeoutTimer, line.unloadGraceTimer, line.jacketEjectTimer, line.jacketCycleTimer,
      line.jacketReleaseTimer, line.jacketWaitTimer], t = none) :=
  ⟨rfl, ⟨by decide +kernel, by decide +kernel⟩, by decide +kernel, by decide +kernel,
    by decide +kernel, by decide +kernel⟩

/-- The line 1 ms before 240 ms, 10 ms before the end of the speed period; and with an operation of a
timer that is due at 240 ms. -/
def atExpiry : List (Instr × State) :=
  let s : State := { line with clock := 239#32 }
  let t : Timer := ⟨40#32, 200⟩
  let x : State := { s with orders := [order], table := { s.table with books := [book 1 7 .staged] } }
  let stg (side : StagingSide) (casing : CasingSide) : State :=
    { x with stg := ⟨[1], [], side, casing, false⟩ }
  let stop (v : JacketStop) : State := { x with dlv := ⟨[], v, false, .good⟩ }
  [(.linkGapTimeout, { s with link := { s.link with rx := .length, last := 220#32 } }),
    (.readerGapTimeout .casePort, s.setText .casePort ⟨[0x32#8], 1, 189#32⟩),
    (.speedPeriod, { s with clock := 249#32 }),
    (.stagingReleaseTimeout, stg (.forwardInFlight t) .empty),
    (.casingReleaseTimeout, stg (.idle .none) (.releasing 1 t)),
    (.caseEjectTimeout, stg (.ejectInFlight t) .empty),
    (.casingTimeout, stg (.idle .none) (.inCycle 1 t)),
    (.earlyHoldExpiry, stg (.idle (.earlyHold t)) .empty),
    (.caseWaitExpiry, stg (.idle (.caseWait t)) .empty),
    (.indexTimeout, { x with press := { x.press with index := some ⟨t, none, none, 4⟩ } }),
    (.unloadGraceExpiry, { x with press := { x.press with awaited := some (1, t) } }),
    (.jacketEjectTimeout, stop (.ejectInFlight 1 t)), (.jacketCycleTimeout, stop (.inCycle 1 t)),
    (.jacketReleaseTimeout, stop (.releasing 1 t)), (.jacketWaitExpiry, stop (.waiting 1 (some t)))]

/-- Each timer alone due, with none due after its expiry; and an index alone due. -/
theorem witness_TimePasses_expiries :
    (∀ p ∈ atExpiry, p.2.pending = [] ∧
      (let now : State := { p.2 with clock := p.2.clock + 1#32 }
       (now.timers.filter (fun t => t.due now.clock)).length = 1 ∧ after [p.1] now ≠ now ∧
         ∀ u ∈ (after [p.1] now).timers, u.due (after [p.1] now).clock = false)) ∧
    (let now : State := { withBooks [book 1 1 .pressQueued] with
        clock := 2500#32
        trk := { line.trk with periodStart := 2400#32 }
        press := { line.press with queue := [1], lastCommand := some 0#32 } }
     (∀ t ∈ now.timers, t.due now.clock = false) ∧ now.indexReady = true ∧ now.indexDue = true) := by
  decide +kernel

/-- The idle step expires what is due. -/
theorem test_idle_step_expires :
    ∀ p ∈ atExpiry, after [p.1] { p.2 with clock := p.2.clock + 1#32 } =
      (match step p.2 with
        | .next t => t
        | .fault _ => p.2
        | .refused _ => p.2) := by decide +kernel

theorem witness_PowerOnEmptiesTheBookTable :
    (∃ t, exec .powerOn line = .next t) ∧
    (answering true).link.rx = .answering ∧ (answering true).link.restartDue = true ∧
    ∃ t, exec .responseSent (answering true) = .next t :=
  ⟨⟨_, rfl⟩, rfl, rfl, ⟨_, rfl⟩⟩

theorem witness_RestartFollowsItsResponse :
    line.link.rx ≠ .answering ∧ (answering true).link.rx = .answering ∧
    (answering true).link.restartDue = true ∧ (answering false).link.rx = .answering ∧
    (answering false).link.restartDue = false := by decide +kernel

theorem witness_LinkReceiveTable :
    (receiving .hunting []).link.rx = .hunting ∧ (receiving .length []).link.rx = .length ∧
    (receiving (.body 250) []).link.rx = .body 250 ∧
    (receiving (.check 1) [7]).link.rx = .check 1 ∧
    (receiving (.check 1) [7]).link.buffer = 7#8 :: [] ∧
    BitVec.ofNat 8 1 + byteSum (receiving (.check 1) [7]).link.buffer + 0xF8#8 = 0#8 ∧
    BitVec.ofNat 8 1 + byteSum (receiving (.check 1) [7]).link.buffer + 0xF9#8 ≠ 0#8 ∧
    (answering false).link.rx = .answering := by decide +kernel

theorem witness_FramedRequestIsTaken :
    (List.replicate 249 0#8).length ≤ 249 ∧ line.link.rx = .hunting ∧
    0xFF#8 ≠ checkByte ((requestFrame 0x01#8 []).tail.dropLast) := by decide +kernel

theorem witness_RequestsAreAnswered :
    line.link.rx ≠ .answering ∧ (answering true).link.rx = .answering := by decide +kernel

theorem witness_FramesAndRefusals : line.link.rx ≠ .answering ∧ (0x03#8, 78) ∈ bodyLengths ∧
    (List.replicate 77 0#8).length ≠ 78 ∧ 0x00#8 ∉ requestCodes ∧ 0xFF#8 ∉ requestCodes := by
  decide +kernel

/-- Every slot accounted for: one live record and one retired. -/
def accounted (l : Life) : State := { withBooks [book 1 1 l, book 96 2 .retired] with
  table := { line.table with books := [book 1 1 l, book 96 2 .retired], outcomes := [96] } }

theorem accounted_slots (l : Life) (h : l ≠ .retired) : (accounted l).SlotsAccounted where
  range := by cases l <;> decide
  nodup := by cases l <;> decide
  outcomes_nodup := by cases l <;> decide
  outcomes := by
    intro r
    simp [accounted, withBooks, book, newBook, h, eq_comm]

theorem witness_ReadingTheLine : line.link.rx ≠ .answering ∧ (accounted .staged).SlotsAccounted ∧
    (1 ≤ 1 ∧ 1 ≤ 48) ∧ (1 ≤ 48 ∧ 48 ≤ 48) ∧ 0 < 256 ∧ (49 < 256 ∧ 48 < 49) ∧ 255 < 256 :=
  ⟨by decide, accounted_slots _ (by decide), by decide, by decide, by decide, by decide, by decide⟩

/-- The line with the orders of the first and the last number. -/
def twoOrders : State := { line with orders := [entry 1 1, entry 999999 24] }

theorem witness_ReadingOrders : twoOrders.link.rx ≠ .answering ∧ twoOrders.order? 1 = some (entry 1 1) ∧
    twoOrders.order? 999999 = some (entry 999999 24) ∧ twoOrders.order? 2 = none ∧
    (entry 1 1).tmpl.mode = .copyExact ∧ 8 ≤ (entry 1 1).copies ∧ 24 ≤ 24 ∧ 64 ≤ 64 := by
  decide +kernel

theorem witness_ReadingRecords : (accounted .staged).link.rx ≠ .answering ∧
    (accounted .staged).book? 1 = some (book 1 1 .staged) ∧
    (accounted .staged).book? 96 = some (book 96 2 .retired) ∧
    (accounted .staged).book? 95 = none ∧
    (accounted .staged).table.books.filter (fun b =>
      decide (b.order? = some 204518 ∧ b.copy? = some 1) && aboveBound 0 b.seq) =
      [book 1 1 .staged] ∧
    (accounted .staged).table.books.filter (fun b =>
      decide (b.ident = some (block 2)) && aboveBound 95 b.seq) = [book 96 2 .retired] ∧
    (accounted .staged).table.books.filter (fun b =>
      decide (b.ident = some ⟨999999, 9999, .blockItem⟩) && aboveBound 0 b.seq) = [] := by
  decide +kernel

theorem witness_ConfigurationRoundTrip : cfgInRange (cfgValues Cfg.default) = true := by
  decide +kernel

theorem witness_SetPoint :
    line.link.rx ≠ .answering ∧ line.io.points.length = 48 ∧
    (∃ z, line.active z = true ∧ 1 ∈ zonePoints z) ∧
    (∀ z, (lineAt .stopped none).active z = true → 27 ∉ zonePoints z) ∧
    (∀ z, line.active z = true → 47 ∉ zonePoints z) ∧
    ({ mode := .off, pullUp := false, polarity := .highActive, high := true } : Point).reading =
      false ∧
    ((lineAt .stopped none).point 27).reading = true ∧ (lineAt .stopped none).io.guardClosed = true :=
  ⟨by decide, by decide +kernel, ⟨.a, by decide +kernel⟩, by intro z; cases z <;> decide,
    by intro z; cases z <;> decide, by decide, by decide +kernel, by decide +kernel⟩

theorem witness_RearmOutputs :
    line.link.rx ≠ .answering ∧ State.reset.io.guardClosed = false ∧
    (line.io.guardClosed = true ∧ line.io.armed = true) ∧
    ((after [.guardCloses] State.reset).io.guardClosed = true ∧
      (after [.guardCloses] State.reset).io.armed = false) := by decide +kernel

/-! ### Orders and records -/

theorem witness_LoadOrder :
    let top : Template := ⟨999999, .title, 45000, 500, 400, 150, 11000, 200, true, 600000, .none, true⟩
    let low : Template := ⟨1, .copyExact, 10000, 20, 100, 0, 600, 0, false, 2000, .required, false⟩
    let full : State := { line with orders := (List.range 24).map (fun i => entry (i + 2) (i + 1)) }
    let gap : State := { line with orders := [entry 2 1, entry 3 3] }
    line.link.rx ≠ .answering ∧ top.InRange 9999 ∧ low.InRange 256 ∧
    twoOrders.order? low.order = some (entry 1 1) ∧
    (full.order? low.order = none ∧ ∀ n, 1 ≤ n → n ≤ 24 → ∃ o ∈ full.orders, o.slot = n) ∧
    (gap.order? low.order = none ∧ (∀ o ∈ gap.orders, o.slot ≠ 2) ∧
      ∀ k, 1 ≤ k → k < 2 → ∃ o ∈ gap.orders, o.slot = k) := by
  refine ⟨by decide, ?_, ?_, by decide +kernel, ⟨by decide +kernel, ?_⟩, by decide +kernel,
    by decide +kernel, ?_⟩
  · constructor <;> decide
  · constructor <;> decide
  · intro n h1 h2
    interval_cases n <;> decide +kernel
  · intro k h1 h2
    interval_cases k
    decide +kernel

theorem witness_AmendHoldResumeAndCloseOrder :
    let a : Amendment := ⟨200, 500, true, 600000, .none, true, 256⟩
    let s (st : OrderState) (n : Nat) : State := { line with orders := [{ order with
      state := st, counters := { zero with inProcess := n } }] }
    line.link.rx ≠ .answering ∧ 204518 < 4294967296 ∧ line.order? 4294967295 = none ∧
    ((s .complete 0).order? 204518 = some { order with state := .complete } ∧ a.spineTol ≤ 200 ∧
      20 ≤ a.lengthTol ∧ a.lengthTol ≤ 500 ∧ 2000 ≤ a.dwell ∧ a.dwell ≤ 600000 ∧
      order.copies ≤ a.copies ∧ a.copies ≤ 256) ∧
    ((a.spineTol < 256 ∧ a.lengthTol < 65536 ∧ a.dwell < 4294967296 ∧ a.copies < 65536) ∧
      200 < 201 ∧ 19 < 20 ∧ 500 < 501 ∧ 1999 < 2000 ∧ 600000 < 600001 ∧ 7 < order.copies ∧ 256 < 257 ∧
      order.tmpl.mode = .copyExact) ∧
    ((s .openOrder 1).orders.map (·.state) = [.openOrder] ∧
      (s .held 0).orders.map (·.state) = [.held] ∧
      (s .openOrder 1).orders.map (·.counters.inProcess) = [1] ∧
      (s .held 0).orders.map (·.counters.inProcess) = [0]) := by decide +kernel

theorem witness_AdmitAdd :
    line.link.rx ≠ .answering ∧
    (∃ c rest, bytes [1, 0, 0, 0] = c :: rest ∧ rest.length ≠ 4 * c.toNat) ∧
    (List.replicate 255 1).length ≤ 255 ∧ 8 < (List.replicate 9 1).length ∧
    (∃ n ∈ [1, 0], n = 0 ∨ 999999 < n) ∧ (∃ n ∈ [1000000], n = 0 ∨ 999999 < n) ∧
    ([1, 2, 3, 4, 5, 6, 7, 999999].length ≤ 8 ∧
      (∀ n ∈ [1, 2, 3, 4, 5, 6, 7, 999999], 1 ≤ n ∧ n ≤ 999999) ∧
      [1, 2, 3, 4, 5, 6, 7, 999999][7]? = some 999999) :=
  ⟨by decide, ⟨_, _, rfl, by decide⟩, by decide +kernel, by decide⟩

theorem witness_AdmitClear : line.link.rx ≠ .answering ∧ ([0#8] : List Byte) ≠ [] := by decide

theorem witness_CollectAndMarkReject :
    line.link.rx ≠ .answering ∧ line.book? 1 = none ∧ line.book? 96 = none ∧
    (accounted .staged).book? 1 = some (book 1 1 .staged) ∧
    (accounted .staged).book? 96 = some (book 96 2 .retired) ∧
    (book 1 1 .staged).seq = 1 ∧ (4294967295 ≠ 0 ∧ 4294967295 ≠ (book 1 1 .staged).seq) ∧
    (book 1 1 .staged).life ≠ .retired ∧ (book 96 2 .retired).life = .retired ∧
    (book 1 1 .staged).lane = none ∧ ({ book 1 1 .toOutfeed with lane := some .good } : Book).lane ≠ none := by
  decide +kernel

/-- R162: twelve lines of LIST OUTCOMES fit a frame, whose length byte is at most 250. -/
theorem test_twelve_outcomes_fit_a_frame :
    let books := (List.range 12).map (fun i => { book (i + 1) 1 .retired with
      outcome := some .good, retiredAt := some 0#32 })
    let s : State := { line with table := { line.table with
      books := books, outcomes := books.map (·.slot) } }
    ((after [.listOutcomes []] s).link.response.take 2).getLast? = some 244#8 := by decide +kernel

/-! ### Zones -/

/-- The line STOPPED, with the motor output of zone A as power-on leaves it. -/
def unsuited : State := (lineAt .stopped none).setPoint 28 (Point.atPowerOn 28 false)

theorem witness_ZoneRunAndStop :
    line.link.rx ≠ .answering ∧
    (∀ z, line.zoneState z = .running) ∧ (∀ z, (lineAt .faulted none).zoneState z = .faulted) ∧
    (∀ z, (lineAt .tripped none).zoneState z = .tripped) ∧
    (∀ z, (lineAt .draining none).zoneState z = .draining) ∧
    (∀ z, State.reset.zoneState z = .stopped) ∧ State.reset.io.guardClosed = false ∧
    ((lineAt .stopped none).io.guardClosed = true ∧ (lineAt .stopped none).io.armed = true) ∧
    (∀ z, ∀ k ∈ zonePoints z, pointSuitable k ((lineAt .stopped none).point k) = true) ∧
    (28 ∈ zonePoints .a ∧ unsuited.zoneState .a = .stopped ∧ unsuited.io.guardClosed = true ∧
      unsuited.io.armed = true ∧ pointSuitable 28 (unsuited.point 28) = false ∧
      ∀ k ∈ zonePoints .a, k < 28 → pointSuitable k (unsuited.point k) = true) := by
  refine ⟨by decide, ?_, ?_, ?_, ?_, ?_, by decide, by decide, ?_, by decide +kernel⟩ <;>
    intro z <;> cases z <;> decide +kernel

theorem witness_ZoneHalt :
    line.link.rx ≠ .answering ∧ (∀ z, line.zoneState z = .running) ∧
    (∀ z, (lineAt .draining none).zoneState z = .draining) ∧
    (∀ z, (lineAt .stopped none).zoneState z = .stopped) ∧
    (∀ z, (lineAt .faulted none).zoneState z = .faulted) ∧
    (∀ z, (lineAt .tripped none).zoneState z = .tripped) := by
  refine ⟨by decide, ?_, ?_, ?_, ?_, ?_⟩ <;> intro z <;> cases z <;> decide

/-- The accounted line with its zones STOPPED. -/
def halted (l : Life) : State := { accounted l with zones := zonesAt .stopped none }

theorem halted_slots (l : Life) (h : l ≠ .retired) : (halted l).SlotsAccounted where
  range := (accounted_slots l h).range
  nodup := (accounted_slots l h).nodup
  outcomes_nodup := (accounted_slots l h).outcomes_nodup
  outcomes := (accounted_slots l h).outcomes

theorem witness_Purge :
    line.link.rx ≠ .answering ∧ (∀ z, line.zoneState z ≠ .stopped ∧ line.zoneState z ≠ .faulted) ∧
    ({ halted .pressing with press := { line.press with
      index := some ⟨⟨0#32, 3000⟩, none, none, 4⟩ } }).inFlight .p = true ∧
    (halted .casing).SlotsAccounted ∧
    (∀ z, (halted .casing).zoneState z = .stopped ∧ (halted .casing).inFlight z = false) ∧
    ((halted .casing).book? 1 = some (book 1 1 .casing) ∧ (book 1 1 .casing).inZone .b = true) ∧
    (halted .casing).book? 96 = some (book 96 2 .retired) ∧
    (book 96 2 .retired).inZone .b = false := by
  refine ⟨by decide, ?_, by decide, halted_slots _ (by decide), ?_, by decide +kernel,
    by decide +kernel, by decide⟩ <;> intro z <;> cases z <;> decide

theorem witness_TrackingReset :
    line.link.rx ≠ .answering ∧ (∃ z, line.zoneState z ≠ .stopped ∧ line.zoneState z ≠ .faulted) ∧
    (halted .casing).SlotsAccounted ∧ ∀ z, ((halted .casing).zoneState z = .stopped ∨
      (halted .casing).zoneState z = .faulted) ∧ (halted .casing).inFlight z = false := by
  refine ⟨by decide, ⟨.a, by decide⟩, halted_slots _ (by decide), ?_⟩
  intro z
  cases z <;> decide

/-- CLEAR FAULTS meets each answer: a cause that persists, a fault cleared, a zone not faulted. -/
theorem witness_FaultsAreTakenAndCleared :
    let s := after [.gaugeLeadingEdge] { line with
      zones := ⟨⟨.faulted, some .eyeBlocked, true⟩, ⟨.tripped, some .missing, false⟩,
        ⟨.stopped, none, false⟩, ⟨.faulted, some .jacketJam, false⟩⟩ }
    line.link.rx ≠ .answering ∧ ([Zone.c, .p, .b, .a] : List Zone) ≠ [] ∧
    ([Zone.c, .p, .b, .a] : List Zone).length ≤ 4 ∧ Zone.p ≠ .a ∧ s.zoneState .a = .faulted ∧
    s.zones.a.code = some .eyeBlocked ∧ s.reads 7 = true ∧ s.zoneState .c = .faulted ∧
    s.zoneState .b = .tripped ∧ s.zoneState .p = .stopped := by decide +kernel

/-! ### Readers, counts and gauging -/

theorem witness_ReaderCharactersAndGauge :
    (∀ p, (line.text p).count = 0) ∧
    (∀ p, ((line.setText p ⟨[0x32#8], 1, 0#32⟩).text p).count ≠ 0) ∧
    ((0x32#8 : Byte) ≠ 0x0D#8 ∧ (0x32#8 : Byte) ≠ 0x0A#8) ∧ 10000 ≤ 10000 ∧ 10000 < 10001 := by
  refine ⟨?_, ?_, by decide, by decide, by decide⟩ <;> intro p <;> cases p <;> decide

/-- The case port with a text in reception. -/
def received (t : String) (n : Nat) : State :=
  line.setText .casePort ⟨text t, n, 0#32⟩

theorem witness_ScansAreJudgedAndHeld :
    ((received "2045180007C3" 21).text .casePort).count > 20 ∧
    ((received "2045180007C" 11).text .casePort).count ≠ 12 ∧
    (((received "2045180007X3" 12).text .casePort).count = 12 ∧
      identForm ((received "2045180007X3" 12).text .casePort).stored = none) ∧
    (((received "2045180007C4" 12).text .casePort).count = 12 ∧
      identForm ((received "2045180007C4" 12).text .casePort).stored = some (kase 7) ∧
      ((received "2045180007C4" 12).text .casePort).stored ≠ identText (kase 7)) ∧
    (((received "2045180007C3" 12).text .casePort).count = 12 ∧
      identForm ((received "2045180007C3" 12).text .casePort).stored = some (kase 7) ∧
      ((received "2045180007C3" 12).text .casePort).stored = identText (kase 7)) ∧
    kase 7 ≠ kase 8 ∧
    line.gauge.current = none ∧
    (∃ g w, ({ line with gauge := ⟨none, some ⟨1, 1, .inProgress, some ⟨[block 7], false⟩⟩⟩ } :
      State).gauge.current = some g ∧ g.window = some w) :=
  ⟨by decide +kernel, by decide +kernel, by decide +kernel, by decide +kernel,
    by decide +kernel, by decide, rfl, ⟨_, _, rfl, rfl⟩⟩

theorem witness_IdentifierRoundTrip :
    (∀ p, line.text p = ⟨[], 0, 0#32⟩) ∧ (1 ≤ 1 ∧ 1 ≤ 9999) ∧ (999999 ≤ 999999 ∧ 9999 ≤ 9999) ∧
    some 0x35#8 ≠ (identText (kase 7)).getLast? ∧ 0x30 ≤ (0x35#8 : Byte).toNat ∧
    (0x35#8 : Byte).toNat ≤ 0x39 := by
  refine ⟨?_, by decide, by decide, by decide +kernel, by decide, by decide⟩
  intro p
  cases p <;> decide

theorem witness_EncoderCounts :
    let read (x y : Bool) := ((line.setLevel 1 x).setLevel 2 y).phaseReading .a
    (line.belt .a).phase = (false, false) ∧ read false false = (false, false) ∧
    read true true = (!false, !false) ∧ read true false = (!false, false) ∧
    read false true = (false, !false) ∧
    (let k := ({ line.belt .a with direction := .reverse, mark := 51#16 } : BeltState)
      let s := line.setBelt .a k
      (s.belt .a).direction = .reverse ∧ (s.belt .a).counted = true ∧
        (s.belt .a).backReported = false ∧
        sdiff (s.belt .a).mark (s.belt .a).count = (s.cfg.backLimit.get .a : Int) + 1) ∧
    (line.belt .a).direction ≠ .reverse := by decide +kernel

/-- R76: a back-travel limit set after a down-count applies from the next one only. -/
theorem test_new_back_limit_waits_for_a_count :
    let s := (lineAt .stopped none).setBelt .a { counting with direction := .reverse, mark := 51#16 }
    let values := (cfgBody Cfg.default).map (fun b => b.getD 0#8)
    (after [.backTravel .a] s).zoneState .a = .faulted ∧
    (after [.setConfig values, .responseSent, .backTravel .a] s).zoneState .a = .stopped := by
  decide +kernel

/-- The record being gauged, with its lead at count 0. -/
def fresh : Book := newBook 1 1 0#32 0#16

/-- The line with a gauging record at a count of zone A. -/
def gauging (n : Nat) (b : Book) (len : LengthState) (w : Option ReadWindow) : State :=
  onA n { withBooks [b] with
    table := { line.table with books := [b], transit := [1] }
    gauge := ⟨some 2412, some ⟨1, 1, len, w⟩⟩ }

/-- A window that has gathered some blocks. -/
def gathered (copies : List Nat) : Option ReadWindow := some ⟨copies.map block, false⟩

theorem witness_GaugingCounts :
    let s := gauging 200 fresh .inProgress (gathered [])
    let back := s.setBelt .a { s.belt .a with direction := .reverse }
    let overrun := gauging 5001 fresh .inProgress (gathered [])
    s.gauge.current = some ⟨1, 1, .inProgress, gathered []⟩ ∧ s.book? 1 = some fresh ∧
    gathered [] ≠ none ∧ (s.belt .a).direction = .forward ∧ (s.belt .a).counted = true ∧
    fresh.samples.length = 4 ∧ (State.reset.belt .a).counted = false ∧
    ([s.cfg.s1, s.cfg.s2, s.cfg.s3, s.cfg.s4][3]? = some 950 ∧ fresh.samples[3]? = some none) ∧
    (back.belt .a).direction = .reverse ∧
    sdiff (overrun.belt .a).count fresh.lead = (overrun.cfg.maxSpan : Int) + 1 := by decide +kernel

theorem gauging_slots (n : Nat) (len : LengthState) (w : Option ReadWindow) (t : Option Count) :
    (gauging n { fresh with trail := t } len w).SlotsAccounted where
  range := by simp [gauging, onA, fresh, newBook]
  nodup := by simp [gauging, onA]
  outcomes_nodup := by simp [gauging, onA, line, State.reset, BookTable.initial]
  outcomes := by simp [gauging, onA, line, State.reset, BookTable.initial, fresh, newBook]

theorem witness_ReadWindowClose :
    let s (copies : List Nat) := gauging 5400 fresh (.ended none) (gathered copies)
    let t := gauging 2500 { fresh with trail := some 2100#16 } (.ended (some 2100#16)) (gathered [7])
    (∀ copies, (s copies).SlotsAccounted) ∧ t.SlotsAccounted ∧
    (s []).gauge.current = some ⟨1, 1, .ended none, gathered []⟩ ∧ (s []).book? 1 = some fresh ∧
    fresh.life ≠ .retired ∧ fresh.binding = none ∧
    (((s []).belt .a).direction = .forward ∧ ((s []).belt .a).counted = true) ∧
    sdiff ((s []).belt .a).count fresh.lead =
      ((s []).cfg.maxSpan : Int) + (s []).cfg.readGrace ∧
    (t.book? 1).map (·.trail) = some (some 2100#16) ∧
    sdiff (t.belt .a).count 2100#16 = (t.cfg.readGrace : Int) ∧
    (∃ i ∈ [7, 8].map block, ∃ j ∈ [7, 8].map block, i ≠ j) ∧
    (∃ i ∈ [7, 7].map block, ∀ j ∈ [7, 7].map block, j = i) :=
  ⟨fun _ => gauging_slots _ _ _ none, gauging_slots _ _ _ _, by decide +kernel, by decide +kernel,
    by decide, by decide, by decide +kernel, by decide +kernel, by decide +kernel, by decide +kernel,
    by decide, by decide⟩

theorem witness_IdentificationAndWanted :
    let s : State := { withBooks [book 1 8 .staged] with orders := [{ order with
      copyMap := [.notSeen, .rejected, .finished, .notSeen, .notSeen, .notSeen, .notSeen, .inProcess] }] }
    let title : State := { line with orders := [{ order with tmpl := { tmpl with mode := .title } }] }
    (kase 1).item ≠ .blockItem ∧ (block 1).item = .blockItem ∧ line.order? 204518 = none ∧
    (∃ o, s.order? 204518 = some o ∧ o.state ≠ .complete ∧ o.tmpl.mode = .copyExact ∧
      o.copyMap.length = o.copies ∧ o.copies < 9 ∧ o.copyMap[0]? = some .notSeen ∧
      o.copyMap[1]? = some .rejected ∧ o.copyMap[2]? = some .finished ∧
      o.copyMap[7]? = some .inProcess ∧ s.boundRecord? 204518 8 = some (book 1 8 .staged) ∧
      o.tmpl.jacket = .required) ∧
    (∃ o, title.order? 204518 = some o ∧ o.state ≠ .complete ∧ o.tmpl.mode = .title) ∧
    ((book 1 8 .staged).binding = some .bound ∧ (book 1 8 .staged).order? = some 204518 ∧
      (book 1 8 .staged).copy? = some 8 ∧ (book 1 8 .staged).copy? ≠ some 1) ∧
    ({ order with state := .complete } : Order).state = .complete :=
  ⟨by decide, by decide, by decide +kernel, ⟨_, rfl, by decide +kernel⟩, ⟨_, rfl, by decide +kernel⟩,
    by decide +kernel, rfl⟩

theorem witness_SpineFit :
    let b := measured [2412, 2418, 2405, 2421] 26250
    b.thickness = some 2414 ∧ b.spread = some 16 ∧ b.lm = some 26250 ∧
    3 ≤ (validSamples b.samples).length ∧ 16 ≤ 40 ∧
    ((26250 : Nat) - (tmpl.trim : Int)).natAbs ≤ tmpl.lengthTol ∧
    (2414 ≤ 9999 ∧ 100 ≤ tmpl.board ∧ tmpl.board ≤ 400 ∧ tmpl.rounding ≤ 150) ∧
    (∀ sn ∈ [3034, 3084], -(25 : Int) ≤ 3059 - sn ∧ 3059 - sn ≤ (25 : Int)) ∧
    (25 : Int) < 3059 - 3033 ∧ ((3059 : Int) - 3109 < -25 ∧ -((3059 : Int) - 3109) ≤ 2 * 25) ∧
    ((3059 : Int) - 3110 < -25 ∧ 2 * 25 < -((3059 : Int) - 3110)) ∧
    (validSamples [some (.value 1), some (.value 2), some .invalid, some .invalid]).length < 3 ∧
    fresh.lm = none ∧ 15 < 16 ∧ tmpl.lengthTol < ((26301 : Nat) - (tmpl.trim : Int)).natAbs := by
  decide +kernel

/-! ### Eyes -/

/-- The line with every slot held. -/
def full : State := withBooks ((List.range 96).map (fun i => book (i + 1) 1 .staged))

theorem witness_GaugeLeadingEdge :
    let crowd : State := onA 5599 { line with table := { line.table with lastLead := some 0#16 } }
    let eight : State := { line with table := { line.table with transit := List.replicate 8 1 } }
    (line.point 7).mode = .input ∧ line.gauge.current = none ∧ line.cfg.window.a < line.cfg.dStage ∧
    line.cfg.dStage ≤ 32767 ∧ (∃ l, crowd.table.lastLead = some l ∧
      sdiff (crowd.belt .a).count l < (crowd.cfg.minPitch : Int)) ∧
    (¬ ∃ l, line.table.lastLead = some l ∧ sdiff (line.belt .a).count l < (line.cfg.minPitch : Int)) ∧
    (line.book? 1 = none ∧ (∀ k, 1 ≤ k → k < 1 → line.book? k ≠ none) ∧
      line.table.transit.length < 8) ∧
    (∀ k, 1 ≤ k → k ≤ 96 → full.book? k ≠ none) ∧ 8 ≤ eight.table.transit.length ∧
    (∀ w ∈ [none, gathered [], gathered [7, 8], gathered [7]],
      let s := gauging 3000 fresh .inProgress w
      (s.point 7).mode = .input ∧ s.cfg.window.a < s.cfg.dStage ∧ s.cfg.dStage ≤ 32767 ∧
      s.book? 2 = none ∧ s.book? 1 = some fresh ∧ s.table.transit.length < 8 ∧
      s.gauge.current = some ⟨1, 1, .inProgress, w⟩ ∧ fresh.life = .gauging ∧ fresh.binding = none) ∧
    (∀ w, (gauging 3000 fresh .inProgress w).SlotsAccounted) ∧
    (∀ k, 1 ≤ k → k < 2 → (gauging 3000 fresh .inProgress none).book? k ≠ none) := by
  refine ⟨by decide +kernel, rfl, by decide, by decide, ⟨0#16, rfl, by decide +kernel⟩, ?_,
    ⟨rfl, fun k h g => absurd g (by omega), by decide⟩, fun k h g => ?_, by decide, by decide +kernel,
    fun w => gauging_slots _ _ w none, fun k h g => ?_⟩
  · rintro ⟨l, h, -⟩
    simp [line, State.reset, BookTable.initial] at h
  · exact (by decide +kernel : ∀ k ∈ List.range 97, 1 ≤ k → full.book? k ≠ none) k
      (List.mem_range.2 (by omega)) h
  · obtain rfl : k = 1 := by omega
    decide +kernel

/-- R44, R80, R86: a crowded edge closes the open window of the block before, which is identified and
completed by force, and takes the new record as the gauging record. -/
theorem test_crowded_edge_forces_completion :
    let s := after [.gaugeLeadingEdge] { gauging 3000 fresh .inProgress (gathered [7]) with
      table := { line.table with books := [fresh], transit := [1], nextSeq := 2, lastLead := some 0#16 } }
    s.zones.a = ⟨.faulted, some .crowded, false⟩ ∧ s.table.transit = [1, 2] ∧
    (s.book? 1).map (fun b => (b.life, b.binding, b.ident, b.reason)) =
      some (.toStaging, some .bound, some (block 7), some .gaugeFail) ∧
    (s.book? 1).map (fun b => (b.samples, b.lm)) = some (List.replicate 4 (some .invalid), none) ∧
    s.gauge.current = some ⟨2, 2, .inProgress, some ⟨[], false⟩⟩ := by decide +kernel

theorem witness_TrailingEdges :
    let s (n : Nat) (w : Option ReadWindow) := gauging n fresh .inProgress w
    Eye.outfeed ≠ .gauge ∧ (line.point 7).mode = .input ∧ line.gauge.current = none ∧
    ((s 1 none).gauge.current = some ⟨1, 1, .inProgress, none⟩ ∧ (s 1 none).book? 1 = some fresh ∧
      fresh.life = .gauging ∧ 0 < sdiff ((s 1 none).belt .a).count fresh.lead) ∧
    ¬ (0 < sdiff ((s 0 (gathered [])).belt .a).count fresh.lead) ∧ gathered [] ≠ none ∧
    3 ≤ (validSamples [some (.value 0), some (.value 9999), some (.value 1), some .invalid]).length := by
  decide +kernel

/-- A record with a reference on a belt. -/
def placed (b : Book) (z : Belt) (ref : Nat) : Book := { b with position := some (z, BitVec.ofNat 16 ref) }

/-- Zone B with a count. -/
def onB (n : Nat) (s : State) : State := { s with trk := { s.trk with belts :=
  (s.trk.belts.set .b { s.belt .b with count := BitVec.ofNat 16 n, mark := BitVec.ofNat 16 n }) } }

/-- A head of the staging entry with target 6000, at a count of zone A. -/
def atEntry (n : Nat) (l : Life) : State :=
  onA n { withBooks [placed (book 1 7 l) .a 0] with
    table := { line.table with books := [placed (book 1 7 l) .a 0], transit := [1] } }

/-- A head of the casing watch point with a reserved case, one count beyond its window. -/
def casingLate : State :=
  onB 2421 { withBooks [placed (book 1 7 .toCasing) .b 0] with
    stg := ⟨[], [⟨.ident (kase 7), true⟩], .idle .none, .approach 1, false⟩ }

theorem witness_WatchWindowsAndMissingHeads :
    let b := onC 10 1 .toOutfeed 64000
    let insp : Book := { b with jacketResult := some .unjacketed }
    let proofB : Book := { b with tmpl := some { tmpl with proofFirst := true } }
    let forced := { atEntry 5980 .gauging with gauge := ⟨none, some ⟨1, 1, .inProgress, none⟩⟩ }
    let other := { atEntry 6020 .toStaging with gauge := ⟨none, some ⟨2, 2, .inProgress, none⟩⟩ }
    (atEntry 5979 .toStaging).target? .stagingEntry = some (placed (book 1 7 .toStaging) .a 0, 6000#16) ∧
    ((atEntry 5979 .toStaging).inWindow .stagingEntry 6000#16 = false) ∧
    ((atEntry 5980 .toStaging).inWindow .stagingEntry 6000#16 = true ∧
      (atEntry 5980 .toStaging).trk.opened.get .stagingEntry = false ∧
      (atEntry 5980 .toStaging).gauge.current = none) ∧
    (forced.target? .stagingEntry = some (placed (book 1 7 .gauging) .a 0, 6000#16) ∧
      forced.inWindow .stagingEntry 6000#16 = true ∧
      forced.gauge.current = some ⟨1, 1, .inProgress, none⟩) ∧
    ((outfeedAt 1444).target? .outfeed = some (b, 1464#16) ∧
      (outfeedAt 1444).inWindow .outfeed 1464#16 = true ∧
      (outfeedAt 1444).trk.opened.get .outfeed = false ∧ b.lane = none) ∧
    (({ b with reason := some .suspect } : Book).reason ≠ none ∧ b.reason = none) ∧
    (insp.tmpl.map (·.jacket) = some .required ∧ insp.jacketResult = some .unjacketed) ∧
    (proofB.tmpl.map (·.proofFirst) = some true ∧ b.tmpl.map (·.proofFirst) ≠ some true) ∧
    (((outfeedAt 1485).belt .c).direction = .forward ∧ ((outfeedAt 1485).belt .c).counted = true ∧
      sdiff ((outfeedAt 1485).belt .c).count 1464#16 = ((outfeedAt 1485).cfg.window.c : Int) + 1) ∧
    sdiff ((outfeedAt 1484).belt .c).count 1464#16 ≠ ((outfeedAt 1484).cfg.window.c : Int) + 1 ∧
    ((other.target? .stagingEntry = some (placed (book 1 7 .toStaging) .a 0, 6000#16)) ∧
      other.inWindow .stagingEntry 6000#16 = true ∧ other.trk.opened.get .stagingEntry = false ∧
      other.gauge.current = some ⟨2, 2, .inProgress, none⟩) ∧
    (casingLate.target? .casing = some (placed (book 1 7 .toCasing) .b 0, 2400#16) ∧
      (casingLate.belt .b).direction = .forward ∧ (casingLate.belt .b).counted = true ∧
      sdiff (casingLate.belt .b).count 2400#16 = (casingLate.cfg.window.b : Int) + 1) := by
  decide +kernel

/-- R71: the head behind a missing one, beyond its window too, is missing at once, and the one behind that
has its window opened. -/
theorem test_next_heads_are_tested :
    let books := [onC 10 1 .toOutfeed 64000, onC 11 2 .toOutfeed 63990, onC 12 3 .toOutfeed 64001]
    let s := after [.headMissing .outfeed] { outfeedAt 1485 with table := { line.table with
      books := books, delivery := [10, 11, 12] } }
    s.table.outcomes = [10, 11] ∧ s.table.delivery = [12] ∧ s.trk.opened.outfeed = true ∧
    (s.book? 12).map (·.lane) = some (some .good) ∧
    s.zones.c = ⟨.faulted, some .missing, true⟩ := by decide +kernel

/-- R113: a casing section that loses its head lets the reserved case go. -/
theorem test_lost_casing_head_frees_its_case :
    let s := after [.headMissing .casing] casingLate
    s.stg.casing = .empty ∧ s.stg.cases = [⟨.ident (kase 7), false⟩] ∧ s.table.outcomes = [1] := by
  decide +kernel

theorem witness_WatchPointArrival :
    let s := atEntry 6020 .toStaging
    let fourth : State := { s with stg := { s.stg with queue := [2, 3, 4] } }
    let fifth : State := { s with stg := { s.stg with queue := [2, 3, 4, 5] } }
    (∀ w, (line.point (eyePoint (watchEye w))).mode = .input) ∧ (∀ w, line.target? w = none) ∧
    (atEntry 6021 .toStaging).inWindow .stagingEntry 6000#16 = false ∧
    (s.target? .stagingEntry = some (placed (book 1 7 .toStaging) .a 0, 6000#16) ∧
      s.inWindow .stagingEntry 6000#16 = true) ∧
    fourth.stg.queue.length < 4 ∧ 4 ≤ fifth.stg.queue.length ∧
    ((outfeedAt 1484).inWindow .outfeed 1464#16 = true ∧
      ({ onC 10 1 .toOutfeed 64000 with lane := some .reject } : Book).lane = some .reject) := by
  refine ⟨?_, ?_, by decide +kernel, by decide +kernel, by decide, by decide, by decide +kernel⟩ <;>
    intro w <;> cases w <;> decide +kernel

/-- The staging queue with a head. -/
def headed (l : Life) (side : StagingSide) (casing : CasingSide) (cases : List CaseEntry) : State :=
  { withBooks [book 1 7 l] with stg := ⟨[1], cases, side, casing, false⟩ }

theorem witness_StagingConfirmations :
    let forward := headed .staged (.forwardInFlight ⟨0#32, 2000⟩) .empty [⟨.ident (kase 7), true⟩]
    let reject := headed .staged (.rejectInFlight ⟨0#32, 2000⟩) .empty []
    (∀ n ∈ [9, 10, 12, 14, 16], (line.point n).mode = .input) ∧
    (∀ t, line.stg.side ≠ .forwardInFlight t) ∧ (∀ t, line.stg.side ≠ .rejectInFlight t) ∧
    (∀ r t, line.stg.casing ≠ .releasing r t) ∧ line.press.awaited = none ∧
    (∀ r t, line.dlv.stop ≠ .releasing r t) ∧
    (forward.stg.queue = 1 :: [] ∧ forward.book? 1 = some (book 1 7 .staged) ∧
      (book 1 7 .staged).life = .staged ∧ forward.stg.side = .forwardInFlight ⟨0#32, 2000⟩ ∧
      forward.stg.casing = .empty ∧ forward.cfg.window.b < forward.cfg.dCase ∧
      forward.cfg.dCase ≤ 32767) ∧
    (reject.stg.side = .rejectInFlight ⟨0#32, 2000⟩ ∧
      reject.book? 1 = some (book 1 7 .staged)) := by
  refine ⟨by decide +kernel, ?_, ?_, ?_, rfl, ?_, by decide +kernel, by decide +kernel⟩ <;>
    intros <;> simp [line, State.reset, StagingUnit.initial, DeliveryUnit.initial]

/-- The accounted line with a record awaited at the unload, and one released from the jacket stop. -/
def delivering (l : Life) : State := { withBooks [book 1 7 l] with
  table := { line.table with books := [book 1 7 l], jacketApproach := [1] }
  press := { line.press with awaited := some (1, ⟨0#32, 1500⟩) }
  dlv := { line.dlv with stop := .releasing 1 ⟨0#32, 2000⟩ } }

/-- The same record behind another head, whose target lies far behind the count of zone C. -/
def behind : State :=
  let head := placed (book 2 8 .toJacket) .c 37200
  { delivering .toJacket with table := { line.table with
      books := [book 1 7 .toJacket, head], jacketApproach := [2, 1] } }

/-- R127, R71: a confirmed unload that stands behind other records tests no head. -/
theorem test_unload_behind_a_head :
    (after [.unloadEyeEdge] behind).table.jacketApproach = [2, 1] ∧
    ((after [.unloadEyeEdge] behind).book? 1).map (·.position) = some (some (.c, 0#16)) := by
  decide +kernel

theorem witness_BeltConfirmations :
    let casing := headed .casing (.idle .none) (.releasing 1 ⟨0#32, 2000⟩) []
    (∀ n ∈ [12, 14, 16], (line.point n).mode = .input) ∧
    (casing.book? 1 = some (book 1 7 .casing) ∧ casing.stg.casing = .releasing 1 ⟨0#32, 2000⟩ ∧
      (book 1 7 .casing).life = .casing ∧ casing.table.pressApproach.length < 4 ∧
      casing.cfg.window.b < casing.cfg.dPress ∧ casing.cfg.dPress ≤ 32767) ∧
    ((delivering .toJacket).book? 1 = some (book 1 7 .toJacket) ∧
      (delivering .toJacket).press.awaited = some (1, ⟨0#32, 1500⟩) ∧
      (book 1 7 .toJacket).life = .toJacket ∧
      (delivering .toJacket).table.jacketApproach.head? = some 1 ∧
      line.cfg.window.c < line.cfg.dJkt ∧ line.cfg.dJkt ≤ 32767) ∧
    behind.table.jacketApproach.head? ≠ some 1 ∧ behind.press.awaited = some (1, ⟨0#32, 1500⟩) ∧
    ((delivering .atJacket).dlv.stop = .releasing 1 ⟨0#32, 2000⟩ ∧
      (book 1 7 .atJacket).life = .atJacket ∧ (delivering .atJacket).table.delivery.length < 6 ∧
      line.cfg.window.c < line.cfg.dOut ∧ line.cfg.dOut ≤ 32767) := by decide +kernel

theorem witness_SetConfig :
    line.link.rx ≠ .answering ∧ (cfgValues Cfg.default).length = cfgRows.length ∧
    (∀ p ∈ cfgRows.zip (cfgValues Cfg.default), p.2 < 256 ^ p.1.1) ∧
    (∃ z, line.zoneState z ≠ .stopped) ∧ (∀ z, (lineAt .stopped none).zoneState z = .stopped) ∧
    cfgInRange (cfgValues Cfg.default) = true ∧ cfgConstraints Cfg.default = true ∧
    cfgInRange (cfgValues { Cfg.default with pMin := 1499 }) = false ∧
    cfgConstraints { Cfg.default with pMin := 6001 } = false ∧
    (let c : Cfg := { Cfg.default with dOut := 2999 }
     cfgInRange (cfgValues c) = true ∧ cfgConstraints c = true ∧
       ([1442, 1443, 1483, 1484].map (fun n => ((outfeedAt n).head? .outfeed,
         sdiff ((outfeedAt n).belt .c).count (64000#16 + BitVec.ofNat 16 (watchDistance c .outfeed)))) =
       [-21, -20, 20, 21].map (fun d => (some (onC 10 1 .toOutfeed 64000), d)))) :=
  ⟨by decide, by decide +kernel, by decide +kernel, ⟨.a, by decide⟩, by intro z; cases z <;> decide,
    by decide +kernel, by decide +kernel, by decide +kernel, by decide +kernel, by decide +kernel⟩

/-- R166: an accepted SET CONFIG tests every head again, also one whose target stays where it was: a head
left beyond its window by a run back is then missing, and its zone, though STOPPED, latches MISSING. -/
theorem test_set_config_tests_every_head :
    let s (n : Nat) : State := { outfeedAt n with zones := zonesAt .stopped none }
    let values := (cfgBody Cfg.default).map (fun b => b.getD 0#8)
    ((after [.setConfig values] (s 1485)).book? 10).map (·.outcome) = some (some .lost) ∧
    (after [.setConfig values] (s 1485)).zones.c = ⟨.faulted, some .missing, false⟩ ∧
    ((after [.setConfig values] (s 1484)).book? 10).map (·.lane) = some (some .good) ∧
    (after [.setConfig values] (s 1443)).trk.opened.outfeed = false := by decide +kernel

/-! ### Stations, press and delivery -/

/-- The jacket stop in a state, with a record and a jacket queue. -/
def stopped (b : Book) (stop : JacketStop) (jackets : List Identity) : State :=
  { withBooks [b] with dlv := ⟨jackets, stop, false, .good⟩ }

theorem witness_FeedsAndEjections :
    let full : State := { line with
      stg := { line.stg with cases := List.replicate 6 ⟨.unreadable, false⟩ }
      dlv := { line.dlv with jackets := List.replicate 6 .unreadable } }
    let eject := headed .staged (.ejectInFlight ⟨0#32, 2000⟩) .empty [⟨.ident (kase 8), false⟩]
    let late := { eject with stg := { eject.stg with side := .idle .none, overdue := true } }
    let jeject := stopped (book 1 7 .atJacket) (.ejectInFlight 1 ⟨0#32, 2000⟩) [.ident (jacket 8)]
    let jlate : State := { line with dlv := ⟨[.conflict], .empty, true, .good⟩ }
    (∀ n ∈ [18, 19, 23, 24], (line.point n).mode = .input) ∧ line.stg.cases.length < 6 ∧
    6 ≤ full.stg.cases.length ∧ line.dlv.jackets.length < 6 ∧ 6 ≤ full.dlv.jackets.length ∧
    (eject.stg.cases = ⟨.ident (kase 8), false⟩ :: [] ∧ eject.stg.side = .ejectInFlight ⟨0#32, 2000⟩) ∧
    (late.stg.side.ejecting = false ∧ late.stg.overdue = true) ∧
    (line.stg.side.ejecting = false ∧ line.stg.overdue = false) ∧
    (jeject.dlv.jackets = .ident (jacket 8) :: [] ∧
      jeject.dlv.stop = .ejectInFlight 1 ⟨0#32, 2000⟩) ∧
    (jlate.dlv.jackets = .conflict :: [] ∧ (∀ q u, jlate.dlv.stop ≠ .ejectInFlight q u) ∧
      jlate.dlv.overdue = true) ∧
    ((∀ q u, line.dlv.stop ≠ .ejectInFlight q u) ∧ line.dlv.overdue = false) :=
  ⟨by decide +kernel, by decide, by decide, by decide, by decide, ⟨rfl, rfl⟩, by decide, by decide,
    ⟨rfl, rfl⟩, ⟨rfl, by intros; simp, rfl⟩,
    ⟨by intros; simp [line, State.reset, DeliveryUnit.initial], rfl⟩⟩

theorem witness_CyclesEnd :
    let casing := headed .casing (.idle .none) (.inCycle 1 ⟨0#32, 3000⟩) []
    let stop := stopped (book 1 7 .atJacket) (.inCycle 1 ⟨0#32, 4000⟩) []
    (∀ n ∈ [20, 21, 25, 26], (line.point n).mode = .input) ∧
    (casing.stg.casing = .inCycle 1 ⟨0#32, 3000⟩ ∧ casing.book? 1 = some (book 1 7 .casing) ∧
      (book 1 7 .casing).life ≠ .retired) ∧ (∀ q u, line.stg.casing ≠ .inCycle q u) ∧
    (stop.dlv.stop = .inCycle 1 ⟨0#32, 4000⟩ ∧ stop.book? 1 = some (book 1 7 .atJacket)) ∧
    (∀ q u, line.dlv.stop ≠ .inCycle q u) :=
  ⟨by decide +kernel, by decide +kernel,
    by intros; simp [line, State.reset, StagingUnit.initial], by decide +kernel,
    by intros; simp [line, State.reset, DeliveryUnit.initial]⟩

/-- A record in the pocket at the unload station, loaded at time 0. -/
def pressing : Book := { book 2 8 .pressing with press := some ⟨4, 0#32, 255⟩ }

/-- An index in flight at rotation 0: a load of record 1, and record 2 unloaded or carried on. -/
def turning (unload : Option (Nat × Nat)) : State := { withBooks [book 1 7 .pressQueued, pressing] with
  press := { line.press with
    queue := [1]
    pockets := line.press.pockets.set 4 (some 2)
    index := some ⟨⟨0#32, 3000⟩, some (0, 1), unload, 4⟩ } }

theorem witness_IndexDone :
    (line.point 22).mode = .input ∧ line.press.index = none ∧
    (∀ unload ∈ [none, some (4, 2)],
      (turning unload).press.index = some ⟨⟨0#32, 3000⟩, some (0, 1), unload, 4⟩ ∧
      (turning unload).book? 1 = some (book 1 7 .pressQueued) ∧
      (turning unload).table.jacketApproach.length < 6 ∧
      (turning unload).book? 2 = some pressing ∧
      (turning unload).pocket? 4 = some 2) ∧
    (book 1 7 .pressQueued).life = .pressQueued ∧ pressing.life = .pressing := by decide +kernel

theorem witness_GuardOpensAndCloses :
    let casing := headed .casing (.idle .none) (.inCycle 1 ⟨0#32, 3000⟩) []
    let stop := stopped (book 1 7 .atJacket) (.inCycle 1 ⟨0#32, 4000⟩) []
    line.io.points.length = 48 ∧ (line.point 27).mode = .input ∧ line.io.guardClosed = true ∧
    (State.reset.io.points.length = 48 ∧ (State.reset.point 27).mode = .input ∧
      State.reset.io.guardClosed = false) ∧
    (casing.io.guardClosed = true ∧ casing.stg.casing = .inCycle 1 ⟨0#32, 3000⟩ ∧
      casing.book? 1 = some (book 1 7 .casing) ∧ (book 1 7 .casing).life ≠ .retired) ∧
    (stop.io.guardClosed = true ∧ stop.dlv.stop = .inCycle 1 ⟨0#32, 4000⟩ ∧
      stop.book? 1 = some (book 1 7 .atJacket) ∧ (book 1 7 .atJacket).life ≠ .retired) := by
  decide +kernel

/-- R23, R114, R145: the case and the jacket of an eject that the trip ends are counted as ejected. -/
theorem test_trip_counts_ejects :
    let s := after [.guardOpens] { withBooks [book 1 7 .atJacket] with
      stg := { line.stg with cases := [⟨.ident (kase 8), false⟩], side := .ejectInFlight ⟨0#32, 2000⟩ }
      dlv := ⟨[.ident (jacket 8)], .ejectInFlight 1 ⟨0#32, 2000⟩, false, .good⟩ }
    s.orders.map (fun o => (o.counters.casesEjected, o.counters.jacketsEjected)) = [(1, 1)] ∧
    s.stg.cases = [] ∧ s.dlv.jackets = [] := by decide +kernel

theorem witness_StagingHeadDecision :
    let idle (cs : List CaseEntry) (casing : CasingSide) : State :=
      headed .staged (.idle .none) casing cs
    let held : State := { idle [] .empty with orders := [{ order with state := .held }] }
    let two (h : Nat) (behind : List CaseEntry) : State :=
      { idle (⟨.ident (kase h), false⟩ :: behind) .empty with orders := [{ order with
        copyMap := order.copyMap.set 6 .inProcess }] }
    let x := book 1 7 .staged
    (lineAt .draining none).zoneState .b ≠ .running ∧ line.stg.queue = [] ∧
    ((idle [] .empty).zoneState .b = .running ∧ (idle [] .empty).stg.side = .idle .none ∧
      (idle [] .empty).stg.queue = 1 :: [] ∧ (idle [] .empty).book? 1 = some x) ∧
    (∃ why, ({ x with binding := some (.unbound .foreign) } : Book).binding = some (.unbound why)) ∧
    (x.binding = some .bound ∧ x.reason = none ∧ x.life ≠ .retired) ∧
    (∃ n o, x.order? = some n ∧ held.order? n = some o ∧ o.state = .held) ∧
    ((early 1).binding = some .early ∧ (early 1).reason = none) ∧
    (¬ ∃ n o, x.order? = some n ∧ (idle [] .empty).order? n = some o ∧ o.state = .held) ∧
    ((idle [] (.cased 9)).stg.casing ≠ .empty ∧ (idle [] .empty).stg.casing = .empty ∧
      (idle [] .empty).stg.cases = []) ∧
    (idle [⟨.unreadable, false⟩] .empty).wanted .caseStation .unreadable x = .orphan ∧
    (two 7 []).wanted .caseStation (.ident (kase 7)) x = .matchesX ∧
    (two 8 []).wanted .caseStation (.ident (kase 8)) x = .elsewhere ∧
    (∃ e ∈ [CaseEntry.mk (.ident (kase 7)) false],
      (two 8 [⟨.ident (kase 7), false⟩]).wanted .caseStation e.identity x = .matchesX) ∧
    ((two 8 (List.replicate 4 ⟨.unreadable, false⟩)).stg.cases.length < 6 ∧
      6 ≤ (two 8 (List.replicate 5 ⟨.unreadable, false⟩)).stg.cases.length ∧
      ∀ e ∈ List.replicate 5 (CaseEntry.mk .unreadable false),
        (two 8 (List.replicate 5 ⟨.unreadable, false⟩)).wanted .caseStation e.identity x ≠
          .matchesX) := by
  refine ⟨by decide, by decide, by decide +kernel, ⟨_, rfl⟩, by decide, ⟨_, _, rfl, rfl, rfl⟩,
    by decide, ?_, by decide, by decide +kernel, by decide +kernel, by decide +kernel,
    by decide +kernel, by decide +kernel⟩
  rintro ⟨n, o, hn, ho, hs⟩
  obtain rfl : n = 204518 := by
    simpa [book, Book.order?, block] using hn.symm
  obtain rfl : o = order := by
    simpa [headed, withBooks, State.order?, order, tmpl] using ho.symm
  exact absurd hs (by decide)

theorem witness_JacketStopDecision :
    let x := book 1 7 .atJacket
    let wait (js : List Identity) : State := { stopped x (.waiting 1 none) js with
      orders := [{ order with copyMap := order.copyMap.set 6 .inProcess }] }
    (lineAt .stopped none).active .c = false ∧ (∀ r t, line.dlv.stop ≠ .waiting r t) ∧
    ((wait []).active .c = true ∧ (wait []).io.armed = true ∧ (wait []).dlv.stop = .waiting 1 none ∧
      (wait []).book? 1 = some x ∧ (wait []).dlv.jackets = []) ∧
    ({ x with tmpl := some { tmpl with jacket := .none } } : Book).tmpl.map (·.jacket) = some .none ∧
    (({ x with reason := some .suspect } : Book).reason ≠ none ∧
      x.tmpl.map (·.jacket) = some .required) ∧
    (x.reason = none ∧ x.tmpl.map (·.jacket) ≠ some .none) ∧
    (wait [.ident (jacket 7)]).wanted .jacketStation (.ident (jacket 7)) x = .matchesX ∧
    (wait [.conflict]).wanted .jacketStation .conflict x = .orphan ∧
    (wait [.ident (jacket 8)]).wanted .jacketStation (.ident (jacket 8)) x = .elsewhere :=
  ⟨by decide, by intros; simp [line, State.reset, DeliveryUnit.initial], by decide +kernel, by decide,
    by decide, by decide, by decide +kernel, by decide +kernel, by decide +kernel⟩

theorem witness_UnitCommands :
    let pending := headed .casing (.idle .none) (.cyclePending 1) [⟨.ident (kase 7), true⟩]
    let cased (n : Nat) : State := { headed .casing (.idle .none) (.cased 1) [] with
      table := { line.table with pressApproach := List.replicate n 2 } }
    let done (n : Nat) : State := { stopped (book 1 7 .atJacket) (.done 1) [] with
      table := { line.table with delivery := List.replicate n 2 } }
    (pending.stg.casing = .cyclePending 1 ∧ pending.active .b = true ∧ pending.io.armed = true ∧
      pending.stg.cases = ⟨.ident (kase 7), true⟩ :: []) ∧
    (∀ q, line.stg.casing ≠ .cyclePending q) ∧
    ((cased 3).stg.casing = .cased 1 ∧ (cased 3).active .b = true ∧ (cased 3).io.armed = true ∧
      (cased 3).table.pressApproach.length < 4 ∧ 4 ≤ (cased 4).table.pressApproach.length) ∧
    ((done 5).dlv.stop = .done 1 ∧ (done 5).active .c = true ∧ (done 5).io.armed = true ∧
      (done 5).table.delivery.length < 6 ∧ 6 ≤ (done 6).table.delivery.length) ∧
    (∀ z, (lineAt .draining none).zoneState z = .draining ∧
      (lineAt .draining none).drained z = true) ∧ (∀ z, line.zoneState z ≠ .draining) := by
  refine ⟨by decide, by intros; simp [line, State.reset, StagingUnit.initial], by decide, by decide,
    ?_, ?_⟩ <;> intro z <;> cases z <;> decide

/-- The staging queue with `q` records, a head of the staging entry with target 6000, and a count of
zone A. -/
def pressed (q n : Nat) (flag : Bool) : State :=
  let s := atEntry n .toStaging
  { s with
    stg := { s.stg with queue := (List.range q).map (· + 2) }
    trk := { s.trk with belts := s.trk.belts.set .a { s.belt .a with backPressure := flag } } }

theorem witness_UnitCommands_backPressure :
    let s := pressed 3 6000 false
    let closed : State := { outfeedAt 1484 with zones := zonesAt .stopped none }
    let values := (cfgBody { Cfg.default with dOut := 2999 }).map (fun b => b.getD 0#8)
    let index : State := { line with press := { line.press with index := some ⟨⟨0#32, 3000⟩, none, none, 4⟩ } }
    (((line.setLevel 1 true).setLevel 2 false).phaseReading .a ≠ (line.belt .a).phase) ∧
    ((s.point 8).mode = .input ∧ s.target? .stagingEntry = some (placed (book 1 7 .toStaging) .a 0, 6000#16) ∧
      s.inWindow .stagingEntry 6000#16 = true ∧ s.stg.queue.length < 4) ∧
    (∀ n ∈ [9, 10, 14, 22, 27], (line.point n).mode = .input) ∧ index.press.index ≠ none ∧
    (delivering .toJacket).press.awaited ≠ none ∧ line.io.guardClosed = true ∧
    (after [.setConfig values] closed).cfg ≠ closed.cfg ∧
    (after [.purge [3#8]] closed).table.outcomes ≠ closed.table.outcomes ∧
    (delivering .atJacket).dlv.stop = .releasing 1 ⟨0#32, 2000⟩ ∧
    ((∀ r u, (stopped (book 1 7 .atJacket) (.done 1) []).dlv.stop ≠ .releasing r u) ∧
      ∃ u, (after [.jacketReleaseCommand] (stopped (book 1 7 .atJacket) (.done 1) [])).dlv.stop =
        .releasing 1 u) ∧
    (after [.gaugeLeadingEdge] line).table.transit ≠ line.table.transit ∧
    (let s := headed .casing (.idle .none) (.releasing 1 ⟨0#32, 2000⟩) []
     (after [.casingExitEyeEdge] s).table.pressApproach ≠ s.table.pressApproach) ∧
    (after [.jacketExitEyeEdge] (delivering .atJacket)).table.delivery ≠
      (delivering .atJacket).table.delivery := by
  refine ⟨by decide +kernel, by decide +kernel, by decide +kernel, by decide, by decide, by decide,
    by decide +kernel, by decide +kernel, rfl, ⟨by intros; simp [stopped], ⟨⟨0#32, 2000⟩, by decide +kernel⟩⟩,
    by decide +kernel, by decide +kernel, by decide +kernel⟩

/-- R74: the flag engages at the margin of 150 with the queue full, stays on behind it, and clears when
there is room or no head. -/
theorem test_back_pressure :
    [(4, 5849, false), (4, 5850, false), (3, 5850, false), (4, 5849, true), (3, 5849, true)].map
      (fun (q, n, flag) => ((after [.samplePoint] (pressed q n flag)).belt .a).backPressure) =
      [false, true, false, true, false] ∧
    ((after [.headMissing .stagingEntry] (pressed 4 6021 true)).belt .a).backPressure = false := by
  decide +kernel

theorem witness_IndexCommand :
    let s (now : Nat) : State := { withBooks [book 1 1 .pressQueued] with
      clock := BitVec.ofNat 32 now
      press := { line.press with queue := [1], lastCommand := some 0#32 } }
    let out : State := { withBooks [{ pressing with press := some ⟨4, 0#32, 0⟩ }] with
      clock := 45000#32
      press := { line.press with pockets := line.press.pockets.set 4 (some 2) } }
    ((s 2500).press.index = none ∧ (s 2500).press.awaited = none ∧ (s 2500).active .p = true ∧
      (s 2500).io.armed = true ∧ (s 2500).press.queue ≠ [] ∧
      (s 2500).press.period ≤ elapsed (s 2500).clock 0#32) ∧
    (elapsed (s 2499).clock 0#32 < (s 2499).press.period ∧ (s 2499).press.period < 4294967296) ∧
    (¬ (∃ p r, line.pocket? p = some r) ∧ line.press.queue = []) ∧
    (out.pocket? 4 = some 2 ∧ out.press.lastCommand = none ∧
      45000 ≤ elapsed out.clock 0#32 ∧ out.zoneState .c = .running) ∧
    0 < line.cfg.reach ∧ line.cfg.pMin ≤ line.cfg.pMax ∧
    (1 ∈ (s 2500).press.queue ∧ (s 2500).book? 1 = some (book 1 1 .pressQueued)) := by
  refine ⟨by decide, by decide, ⟨?_, by decide⟩, by decide +kernel, by decide, by decide,
    by decide +kernel⟩
  rintro ⟨p, r, h⟩
  have hp : line.press.pockets = List.replicate 24 none := rfl
  rw [State.pocket?, hp, List.getElem?_replicate] at h
  split at h <;> simp at h

theorem witness_StagingTimeouts :
    let t : Timer := ⟨0#32, 2000⟩
    let x := { book 1 7 .staged with binding := some .early }
    let hold : State := { headed .staged (.idle (.earlyHold t)) .empty [] with
      table := { line.table with books := [x] } }
    (headed .staged (.forwardInFlight t) .empty []).stg.side = .forwardInFlight t ∧
    (headed .staged (.rejectInFlight t) .empty []).stg.side = .rejectInFlight t ∧
    (headed .staged (.ejectInFlight t) .empty []).stg.side = .ejectInFlight t ∧
    (headed .casing (.idle .none) (.releasing 1 t) []).stg.casing = .releasing 1 t ∧
    (headed .casing (.idle .none) (.inCycle 1 t) []).stg.casing = .inCycle 1 t ∧
    (hold.stg.side = .idle (.earlyHold t) ∧ hold.stg.queue = 1 :: [] ∧ hold.book? 1 = some x ∧
      x.life ≠ .retired ∧ x.binding = some .early) ∧
    ((headed .staged (.idle (.caseWait t)) .empty []).stg.side = .idle (.caseWait t) ∧
      (headed .staged (.idle (.caseWait t)) .empty []).book? 1 = some (book 1 7 .staged) ∧
      (book 1 7 .staged).binding = some .bound ∧ (book 1 7 .staged).reason = none) := by decide +kernel

theorem witness_PressAndDeliveryTimeouts :
    let t : Timer := ⟨0#32, 2000⟩
    let x := book 1 7 .atJacket
    (turning none).press.index = some ⟨⟨0#32, 3000⟩, some (0, 1), none, 4⟩ ∧
    ((delivering .toJacket).press.awaited = some (1, ⟨0#32, 1500⟩) ∧
      (delivering .toJacket).book? 1 = some (book 1 7 .toJacket) ∧
      (book 1 7 .toJacket).life = .toJacket) ∧
    (stopped x (.ejectInFlight 1 t) []).dlv.stop = .ejectInFlight 1 t ∧
    (stopped x (.inCycle 1 t) []).dlv.stop = .inCycle 1 t ∧
    (stopped x (.releasing 1 t) []).dlv.stop = .releasing 1 t ∧
    (stopped x (.waiting 1 (some t)) []).dlv.stop = .waiting 1 (some t) := by decide +kernel

theorem witness_OutputsAreGated : (28 ≤ 28 ∧ 28 ≤ 48 ∧ 28 ≠ 47) ∧ (28 ≤ 48 ∧ 48 ≤ 48 ∧ 48 ≠ 47) ∧
    State.reset.io.guardClosed = false ∧ (line.io.guardClosed = true ∧ line.io.armed = true) ∧
    (28 ≤ 47 ∧ 47 ≤ 48 ∧ 47 = 47) := by decide

theorem witness_LinesOutOfInputMode :
    let s : State := { line with io := { line.io with
      points := line.io.points.map (fun p => { p with mode := .off }) } }
    (∀ n ∈ [7, 9, 10, 12, 14, 16, 18, 19, 20, 21, 22, 23, 24, 25, 26, 27], (s.point n).mode ≠ .input) ∧
    ∀ w ∈ [Watch.stagingEntry, .casing, .pressEntry, .jacket, .outfeed],
      (s.point (eyePoint (watchEye w))).mode ≠ .input := by decide +kernel

/-! ### Retirement and the invariants -/

theorem witness_Retirement :
    let s : State := { withBooks [book 1 8 .toOutfeed] with orders := [{ order with
      counters := { zero with admitted := 1, inProcess := 1, good := 4294967294 } }] }
    s.book? 1 = some (book 1 8 .toOutfeed) ∧ outcomeFrom .good (book 1 8 .toOutfeed).life = true ∧
    outcomeFrom .good (book 1 8 .staged).life = false ∧ (book 1 8 .toOutfeed).binding = some .bound ∧
    (early 1).binding ≠ some .bound ∧ (book 1 8 .toOutfeed).ident = some (block 8) ∧
    (∃ o, s.order? (block 8).order = some o ∧ o.counters.good < 4294967295 ∧
      o.counters.inspect < 4294967295 ∧ o.counters.rejected < 4294967295 ∧
      o.counters.lost < 4294967295 ∧ o.counters.removed < 4294967295 ∧ 1 ≤ (block 8).copy ∧
      (block 8).copy ≤ o.copyMap.length) :=
  ⟨by decide +kernel, by decide, by decide, by decide, by decide, by decide, ⟨_, rfl, by decide⟩⟩

/-- R30: the last copy finished, or the last book of a title counted, completes an OPEN or HELD order; one
that falls short stays. -/
theorem test_completion :
    let s (o : Order) : State := { withBooks [book 1 7 .toOutfeed] with orders := [o] }
    let last (st : OrderState) : Order := { order with
      state := st, copyMap := (List.replicate 8 .finished).set 6 .inProcess }
    let title (n : Nat) : Order := { order with
      tmpl := { tmpl with mode := .title }, copyMap := [], counters := { zero with good := n } }
    [(last .openOrder, BookOutcome.good), (last .held, .inspect), (order, .good), (title 7, .inspect),
      (title 6, .good), (last .openOrder, .removed)].map (fun (o, out) =>
        ((s o).retire 1 out).orders.map (fun o => (o.state, o.unreported))) =
      [[(.complete, true)], [(.complete, true)], [(.openOrder, false)], [(.complete, true)],
        [(.openOrder, false)], [(.openOrder, false)]] := by decide +kernel

/-- The line ready meets every invariant, with a command to run. -/
theorem witness_StepsKeepTheGuard :
    ({ line with pending := [.guardOpens] } : State).Guarded ∧
    ∃ t, step { line with pending := [.guardOpens] } = .next t :=
  ⟨⟨by decide +kernel, by decide, fun _ _ => rfl⟩, ⟨_, rfl⟩⟩

theorem witness_StepsKeepTheCapacities :
    let s : State := { line with
      pending := [.caseFed]
      stg := { line.stg with
        cases := ⟨.unreadable, true⟩ :: List.replicate 4 ⟨.unreadable, false⟩ } }
    s.WithinCapacity ∧ s.ReservedIsHead ∧ ∃ t, step s = .next t :=
  ⟨⟨by decide, by decide, by decide, by decide, by decide, by decide, by decide, by decide, by decide,
    by decide⟩, by simp [State.ReservedIsHead], ⟨_, rfl⟩⟩

theorem witness_StepsKeepTheSlots : (accounted .staged).SlotsAccounted ∧
    ∃ t, step (accounted .staged) = .next t := ⟨accounted_slots _ (by decide), ⟨_, rfl⟩⟩

theorem witness_StepsKeepTheTables : twoOrders.Configured ∧ twoOrders.OrdersDistinct ∧
    ∃ t, step twoOrders = .next t :=
  ⟨⟨by decide +kernel, by decide +kernel, by decide⟩, ⟨by decide, by decide, by decide⟩, ⟨_, rfl⟩⟩

end Sys2Proof.Tests
end

section
/-! SUPPORT. Requests taken in full, the Admit Set (R11, R12), the judging of an ended text (R4) and where
scans go (R6, R7), and the proofs of the statements about them. -/

namespace Sys2Proof.Machine

/-! ### A request taken by a listening link (R164) -/

/-- While no response is being sent, a request is answered with the reply its handler gives. -/
theorem State.takeRequest_of_handler {s t : State} {h : Handler} {body : List Byte} {r : Reply}
    (code : Byte) (hl : s.link.rx ≠ .answering) (hh : h body s = (t, r)) :
    s.takeRequest code h body = t.respond code r := by
  rw [State.takeRequest, if_neg hl, hh]

theorem exec_admitAdd {s t : State} {body : List Byte} {r : Reply} (hl : s.link.rx ≠ .answering)
    (hh : onAdmitAdd body s = (t, r)) : exec (.admitAdd body) s = .next (t.respond 0x18#8 r) :=
  congrArg Host.Outcome.next (State.takeRequest_of_handler 0x18#8 hl hh)

theorem exec_admitClear {s t : State} {body : List Byte} {r : Reply} (hl : s.link.rx ≠ .answering)
    (hh : onAdmitClear body s = (t, r)) : exec (.admitClear body) s = .next (t.respond 0x19#8 r) :=
  congrArg Host.Outcome.next (State.takeRequest_of_handler 0x19#8 hl hh)

/-! ### Bodies -/

theorem num_injective {w m n : Nat} (hm : m < 256 ^ w) (hn : n < 256 ^ w) (h : num w m = num w n) :
    m = n := by
  have hb : beBytes w m = beBytes w n := (Option.some_injective Byte).list_map h
  rw [← readBE_beBytes w m hm, hb, readBE_beBytes w n hn]

@[simp] theorem length_num (w n : Nat) : (num w n).length = w := by simp [num]

theorem flagCode_lt (b : Bool) : flagCode b < 256 ^ 1 := by cases b <;> decide

theorem flagCode_injective : ∀ {a b : Bool}, flagCode a = flagCode b → a = b := by decide

@[simp] theorem inRange_eq_true (lo hi v : Nat) : inRange lo hi v = true ↔ lo ≤ v ∧ v ≤ hi := by
  simp [inRange]

/-- Numbers of four bytes each are read back in their order. -/
theorem splitFields_fours (ns : List Nat) (h : ∀ n ∈ ns, n < 4294967296) :
    splitFields (List.replicate ns.length 4) (ns.flatMap (beBytes 4)) = some ns := by
  have := splitFields_beBytes (ns.map (fun n => (4, n))) (by simpa using h)
  simpa [List.flatMap_map, Function.comp_def, List.map_const'] using this

/-- Fields of four bytes each are not read from a body of another length. -/
theorem splitFields_fours_none {c : Nat} {bs : List Byte} (h : bs.length ≠ 4 * c) :
    splitFields (List.replicate c 4) bs = none := by
  cases hs : splitFields (List.replicate c 4) bs with
  | none => rfl
  | some vs => exact absurd (splitFields_length _ _ _ hs) (by simpa [Nat.mul_comm] using h)

/-! ### The Admit Set (R10, R11, R12) -/

theorem admitIndex_lt (n : Nat) : admitIndex n < 512 := by
  unfold admitIndex
  omega

/-- Taking an order number sets the entry at its index and no other. -/
theorem getLsbD_admitOne (a : BitVec 512) (n i : Nat) :
    (admitOne a n).getLsbD i = (a.getLsbD i || admitIndex n == i) := by
  have := admitIndex_lt n
  simp [admitOne, BitVec.getLsbD_twoPow, this, beq_eq_decide]

/-- The line ADMIT ADD reports for one number: its index, and whether its entry was already set. -/
def admitLine (i : Nat) (already : Bool) : Body := num 2 i ++ one (flagCode already)

theorem admitLine_injective {i j : Nat} {x y : Bool} (hi : i < 512) (hj : j < 512)
    (h : admitLine i x = admitLine j y) : i = j ∧ x = y := by
  obtain ⟨hnum, hflag⟩ := List.append_inj h (by simp)
  exact ⟨num_injective (by omega) (by omega) hnum,
    flagCode_injective (num_injective (flagCode_lt x) (flagCode_lt y) hflag)⟩

theorem admitAll_cons (a : BitVec 512) (n : Nat) (ns : List Nat) :
    admitAll a (n :: ns) = ((admitAll (admitOne a n) ns).1,
      admitLine (admitIndex n) (a.getLsbD (admitIndex n)) :: (admitAll (admitOne a n) ns).2) := rfl

/-- ADMIT ADD sets the entries of its numbers and no other. -/
theorem getLsbD_admitAll (ns : List Nat) (a : BitVec 512) (i : Nat) :
    (admitAll a ns).1.getLsbD i = (a.getLsbD i || ns.any (fun n => admitIndex n == i)) := by
  induction ns generalizing a with
  | nil => simp [admitAll]
  | cons n ns ih => simp [admitAll_cons, ih, getLsbD_admitOne, Bool.or_assoc]

theorem length_admitAll (ns : List Nat) (a : BitVec 512) : (admitAll a ns).2.length = ns.length := by
  induction ns generalizing a with
  | nil => rfl
  | cons n ns ih => simp [admitAll_cons, ih]

/-- The line of a number tells whether an earlier request or an earlier number of this one had set its
entry. -/
theorem getElem?_admitAll (ns : List Nat) (a : BitVec 512) (k n : Nat) (h : ns[k]? = some n) :
    (admitAll a ns).2[k]? = some (admitLine (admitIndex n)
      (a.getLsbD (admitIndex n) || (ns.take k).any (fun m => admitIndex m == admitIndex n))) := by
  induction ns generalizing a k with
  | nil => simp at h
  | cons m ns ih =>
    cases k with
    | zero =>
      obtain rfl : m = n := by simpa using h
      simp [admitAll_cons]
    | succ k =>
      have hk : ns[k]? = some n := by simpa using h
      simp [admitAll_cons, ih _ k hk, getLsbD_admitOne, Bool.or_assoc]

theorem onAdmitAdd_nil (s : State) : onAdmitAdd [] s = (s, refuse .badLength) := rfl

theorem onAdmitAdd_badLength {count : Byte} {rest : List Byte} (s : State)
    (h : rest.length ≠ 4 * count.toNat) : onAdmitAdd (count :: rest) s = (s, refuse .badLength) := by
  simp only [onAdmitAdd, splitFields_fours_none h]
  rfl

/-- The body of ADMIT ADD: the count, and the order numbers in four bytes each (R11). -/
def admitBody (ns : List Nat) : List Byte := BitVec.ofNat 8 ns.length :: ns.flatMap (beBytes 4)

/-- A body whose length agrees with its count is tested for its ranges, and then taken. -/
theorem onAdmitAdd_admitBody {ns : List Nat} (s : State) (hlen : ns.length ≤ 255)
    (hns : ∀ n ∈ ns, n < 4294967296) :
    onAdmitAdd (admitBody ns) s =
      if (1 ≤ ns.length ∧ ns.length ≤ 8) ∧ ∀ n ∈ ns, 1 ≤ n ∧ n ≤ 999999 then
        ({ s with admitSet := (admitAll s.admitSet ns).1 }, ⟨.ok, lines (admitAll s.admitSet ns).2⟩)
      else (s, refuse .outOfRange) := by
  have hc : (BitVec.ofNat 8 ns.length).toNat = ns.length := by
    rw [BitVec.toNat_ofNat]
    omega
  simp only [onAdmitAdd, admitBody, hc, splitFields_fours ns hns, Bool.and_eq_true, List.all_eq_true,
    inRange_eq_true, State.refused]

/-- Settles O21: the lines are `admitLine`, the entries and lines by induction on the numbers. -/
theorem admitAdd : Obligations.AdmitAdd := by
  refine ⟨fun _ i x => admitLine i x, fun _ _ _ _ _ _ hi hj h => admitLine_injective hi hj h, ?_⟩
  intro s hl
  refine ⟨?_, fun ns hlen hns => ⟨?_, ?_⟩⟩
  · rintro body (rfl | ⟨count, rest, rfl, hrest⟩)
    · exact exec_admitAdd hl (onAdmitAdd_nil s)
    · exact exec_admitAdd hl (onAdmitAdd_badLength s hrest)
  · intro hbad
    refine exec_admitAdd hl ((onAdmitAdd_admitBody s hlen hns).trans (if_neg ?_))
    rintro ⟨⟨hpos, hmax⟩, hrange⟩
    rcases hbad with rfl | hbig | ⟨n, hn, hout⟩
    · exact absurd hpos (by decide)
    · omega
    · have := hrange n hn
      omega
  · intro hne hmax hrange
    have hpos : 1 ≤ ns.length := List.length_pos_of_ne_nil hne
    refine ⟨(admitAll s.admitSet ns).1, (admitAll s.admitSet ns).2, ?_, length_admitAll ns _, ?_, ?_⟩
    · exact exec_admitAdd hl
        ((onAdmitAdd_admitBody s hlen hns).trans (if_pos ⟨⟨hpos, hmax⟩, hrange⟩))
    · exact fun i _ => getLsbD_admitAll ns s.admitSet i
    · exact fun k n hk => getElem?_admitAll ns s.admitSet k n hk

theorem onAdmitClear_nil (s : State) :
    onAdmitClear [] s = ({ s with admitSet := 0#512 }, ⟨.ok, num 2 (admitCount s.admitSet)⟩) := rfl

theorem onAdmitClear_badLength {body : List Byte} (s : State) (h : body ≠ []) :
    onAdmitClear body s = (s, refuse .badLength) := by
  simp [onAdmitClear, noBody, h, State.refused]

theorem expected_cleared (s : State) (n : Nat) :
    ({ s with admitSet := 0#512 } : State).expected n = false := BitVec.getLsbD_zero

/-- Settles O22: the count of the entries set is the number of indices kept by the test of an entry. -/
theorem admitClear : Obligations.AdmitClear := by
  intro s body hl
  refine ⟨?_, fun hb => exec_admitClear hl (onAdmitClear_badLength s hb), expected_cleared s⟩
  rintro rfl
  rw [exec_admitClear hl (onAdmitClear_nil s), admitCount, List.countP_eq_length_filter]

/-! ### The digits of an identifier (R1, R2) -/

theorem isDigit_iff (c : Byte) : isDigit c = true ↔ 0x30 ≤ c.toNat ∧ c.toNat ≤ 0x39 := by
  simp [isDigit]

/-- A digit character is the one of a value below 10 exactly when that is its own value. -/
theorem eq_digit_iff {c : Byte} {d : Nat} (hc : isDigit c = true) (hd : d < 10) :
    c = BitVec.ofNat 8 (0x30 + d) ↔ digitVal c = d := by
  obtain ⟨hlo, hhi⟩ := (isDigit_iff c).1 hc
  rw [← BitVec.toNat_inj, BitVec.toNat_ofNat, digitVal]
  omega

theorem digitVal_lt {c : Byte} (hc : isDigit c = true) : digitVal c < 10 := by
  obtain ⟨hlo, hhi⟩ := (isDigit_iff c).1 hc
  unfold digitVal
  omega

theorem digit_of_digitVal {c : Byte} (hc : isDigit c = true) :
    BitVec.ofNat 8 (0x30 + digitVal c) = c :=
  ((eq_digit_iff hc (digitVal_lt hc)).2 rfl).symm

theorem decimal_concat (cs : List Byte) (c : Byte) :
    decimal (cs ++ [c]) = 10 * decimal cs + digitVal c := by
  simp [decimal]

/-- The decimal value of a run of digits is written again with the same digits, leading zeros kept. -/
theorem digitsOf_decimal (cs : List Byte) (h : ∀ c ∈ cs, isDigit c = true) :
    digitsOf cs.length (decimal cs) = cs.map digitVal := by
  induction cs using List.reverseRecOn with
  | nil => rfl
  | append_singleton cs c ih =>
    have hc : digitVal c < 10 := digitVal_lt (h c (by simp))
    have hdiv : (10 * decimal cs + digitVal c) / 10 = decimal cs := by omega
    have hmod : (10 * decimal cs + digitVal c) % 10 = digitVal c := by omega
    rw [List.length_append, List.length_singleton, digitsOf, decimal_concat, hdiv, hmod,
      ih (fun d hd => h d (by simp [hd])), List.map_append, List.map_singleton]

theorem checkDigit_lt (values : List Nat) : checkDigit values < 10 := Nat.mod_lt _ (by decide)

theorem itemLetter_of_itemOfLetter {c : Byte} {item : Item} (h : itemOfLetter c = some item) :
    itemLetter item = c := by
  unfold itemOfLetter at h
  split at h
  · next hc => cases h; exact hc.symm
  · split at h
    · next hc => cases h; exact hc.symm
    · split at h
      · next hc => cases h; exact hc.symm
      · cases h

/-! ### The judging of an ended text (R4) -/

/-- What the form test has found in a text that passes it (R1). -/
structure FormOf (cs : List Byte) (i : Ident) : Prop where
  length : cs.length = 12
  digits : ∀ c ∈ cs.take 10, isDigit c = true
  check : isDigit (cs.getD 11 0#8) = true
  item : itemOfLetter (cs.getD 10 0#8) = some i.item
  order : i.order = decimal (cs.take 6)
  copy : i.copy = decimal ((cs.drop 6).take 4)

theorem formOf_of_identForm {cs : List Byte} {i : Ident} (h : identForm cs = some i) : FormOf cs i := by
  unfold identForm at h
  split at h
  · next hlen =>
    split at h
    · next item hitem =>
      split at h
      · next htests =>
        simp only [Bool.and_eq_true, List.all_eq_true] at htests
        obtain ⟨⟨⟨hdigits, hcheck⟩, -⟩, -⟩ := htests
        cases h
        exact ⟨hlen, hdigits, hcheck, hitem, rfl, rfl⟩
      · cases h
    · cases h
  · cases h

/-- The check digit of R2 for a text that holds the form of an identifier. -/
def expectedCheck (cs : List Byte) (i : Ident) : Nat :=
  checkDigit ((cs.take 10).map digitVal ++ [itemValue i.item])

/-- The twelve characters of the identifier read from a text: its first eleven, and their check digit. -/
theorem FormOf.identText_eq {cs : List Byte} {i : Ident} (h : FormOf cs i) :
    identText i = cs.take 10 ++ [cs.getD 10 0#8, BitVec.ofNat 8 (0x30 + expectedCheck cs i)] := by
  have hsplit : cs.take 10 = cs.take 6 ++ (cs.drop 6).take 4 :=
    List.take_add (i := 6) (j := 4)
  have hlen := h.length
  have hdigits := h.digits
  rw [hsplit] at hdigits
  have horder : digitsOf 6 i.order = (cs.take 6).map digitVal := by
    rw [h.order, ← digitsOf_decimal _ (fun c hc => hdigits c (List.mem_append_left _ hc))]
    simp [hlen]
  have hcopy : digitsOf 4 i.copy = ((cs.drop 6).take 4).map digitVal := by
    rw [h.copy, ← digitsOf_decimal _ (fun c hc => hdigits c (List.mem_append_right _ hc))]
    simp [hlen]
  have hvalues : digitsOf 6 i.order ++ digitsOf 4 i.copy = (cs.take 10).map digitVal := by
    rw [horder, hcopy, hsplit, List.map_append]
  have hchars : ((cs.take 10).map digitVal).map (fun d => BitVec.ofNat 8 (0x30 + d)) = cs.take 10 := by
    rw [List.map_map]
    exact (List.map_congr_left fun c hc => digit_of_digitVal (h.digits c hc)).trans (List.map_id _)
  simp only [identText, hvalues, hchars, itemLetter_of_itemOfLetter h.item, expectedCheck]

/-- A text of twelve characters is its first ten, its item letter and its check character. -/
theorem take_letter_check {cs : List Byte} (h : cs.length = 12) :
    cs.take 10 ++ [cs.getD 10 0#8, cs.getD 11 0#8] = cs := by
  have hlast : cs.drop 10 = [cs.getD 10 0#8, cs.getD 11 0#8] := by
    rw [List.drop_eq_getElem_cons (by omega), List.drop_eq_getElem_cons (by omega),
      List.drop_eq_nil_of_le (by omega)]
    simp [h]
  rw [← hlast, List.take_append_drop]

/-- A text that has the form is its identifier's own text exactly when its check digit matches (R2). -/
theorem FormOf.eq_identText_iff {cs : List Byte} {i : Ident} (h : FormOf cs i) :
    cs = identText i ↔ digitVal (cs.getD 11 0#8) = expectedCheck cs i :=
  calc cs = identText i
      ↔ cs.take 10 ++ [cs.getD 10 0#8, cs.getD 11 0#8] =
          cs.take 10 ++ [cs.getD 10 0#8, BitVec.ofNat 8 (0x30 + expectedCheck cs i)] := by
        rw [h.identText_eq, take_letter_check h.length]
    _ ↔ cs.getD 11 0#8 = BitVec.ofNat 8 (0x30 + expectedCheck cs i) := by simp
    _ ↔ digitVal (cs.getD 11 0#8) = expectedCheck cs i := eq_digit_iff h.check (checkDigit_lt _)

theorem judgeText_badForm {cs : List Byte} {count : Nat}
    (h : count > 20 ∨ count ≠ 12 ∨ identForm cs = none) : judgeText cs count = .badForm := by
  unfold judgeText
  split
  · rfl
  · next hlong =>
    split
    · rfl
    · next hcount =>
      have hform : identForm cs = none := (h.resolve_left hlong).resolve_left hcount
      rw [hform]

/-- A text of twelve characters that has the form is VALID when it is its identifier's own text. -/
theorem judgeText_of_form {cs : List Byte} {count : Nat} {i : Ident} (hc : count = 12)
    (h : identForm cs = some i) :
    judgeText cs count = if cs = identText i then .valid i else .badCheck := by
  simp [judgeText, hc, h, (formOf_of_identForm h).eq_identText_iff, expectedCheck]

/-! ### Texts in reception and held scans (R3, R4, R7) -/

@[simp] theorem State.text_setText (s : State) (p : Port) (t : RxText) : (s.setText p t).text p = t := by
  cases p <;> rfl

/-- The gap timer of an empty text does not run. -/
theorem readerGapTimer_emptied (s : State) (p : Port) :
    (s.setText p RxText.none).readerGapTimer p = none := by
  simp [State.readerGapTimer, RxText.none]

/-- A carriage return delivers the judgement of the text it ends. -/
theorem exec_carriageReturn {s : State} {p : Port} {o : ScanOutcome} (h : (s.text p).count ≠ 0)
    (ho : judgeText (s.text p).stored (s.text p).count = o) :
    exec (.readerCharacter p 0x0D#8 false) s = .next ((s.setText p RxText.none).deliverScan p o) := by
  have hend : s.endText p = (s.setText p RxText.none).deliverScan p o := by
    rw [State.endText, if_neg h, ho]
  exact congrArg Host.Outcome.next hend

theorem HeldScan.after_repeat (i : Ident) : (HeldScan.holding i).after (.valid i) = .holding i :=
  if_pos rfl

theorem HeldScan.after_other {i j : Ident} (h : i ≠ j) :
    (HeldScan.holding j).after (.valid i) = .conflict := if_neg h

/-- A port whose scans change its held scan by `HeldScan.after` follows the table of R7. -/
theorem heldScan_table {p : Port} {held : HeldScan → State}
    (hd : ∀ h o, (held h).deliverScan p o = held (h.after o)) (i j : Ident) :
    (held .empty).deliverScan p (.valid i) = held (.holding i) ∧
      (held (.holding i)).deliverScan p (.valid i) = held (.holding i) ∧
      (i ≠ j → (held (.holding j)).deliverScan p (.valid i) = held .conflict) ∧
      (held .conflict).deliverScan p (.valid i) = held .conflict ∧
      ∀ h, (held h).deliverScan p .badForm = held h ∧ (held h).deliverScan p .badCheck = held h := by
  refine ⟨hd _ _, ?_, fun hij => ?_, hd _ _, fun h => ⟨hd _ _, hd _ _⟩⟩
  · rw [hd, HeldScan.after_repeat]
  · rw [hd, HeldScan.after_other hij]

/-! ### Scans of the block port (R6) -/

/-- With no read window open a scan of the block port is dropped. -/
theorem State.blockScan_closed {s : State} (o : ScanOutcome)
    (h : ∀ g, s.gauge.current = some g → g.window = none) : s.blockScan o = s := by
  unfold State.blockScan
  split
  · next g hg =>
    rw [h g hg]
  · rfl

/-- What a read window holds after a scan outcome: a VALID identifier is added, a bad read is marked. -/
def ReadWindow.after (w : ReadWindow) : ScanOutcome → ReadWindow
  | .valid i => { w with idents := w.idents ++ [i] }
  | .badForm | .badCheck => { w with bad := true }

/-- The open read window takes the outcome, and nothing else changes. -/
theorem State.blockScan_open {s : State} {g : Gauging} {w : ReadWindow} (o : ScanOutcome)
    (hg : s.gauge.current = some g) (hw : g.window = some w) :
    s.blockScan o = s.setGauging (some { g with window := some (w.after o) }) := by
  unfold State.blockScan
  rw [hg]
  cases o <;> simp only [hw] <;> rfl

/-- Settles O30: a text of the form is VALID exactly when it is its identifier's own text, so the tests of
R4 give the three outcomes; both held scans follow `HeldScan.after`, and the read window
`ReadWindow.after`. -/
theorem scansAreJudgedAndHeld : Obligations.ScansAreJudgedAndHeld := by
  refine ⟨fun s p hne => ⟨readerGapTimer_emptied s p, ?_, ?_, ?_⟩, fun s i j => ?_,
    fun s o => ⟨State.blockScan_closed o, ?_⟩⟩
  · exact fun hbad => exec_carriageReturn hne (judgeText_badForm hbad)
  · exact fun i hc hform hcheck =>
      exec_carriageReturn hne ((judgeText_of_form hc hform).trans (if_neg hcheck))
  · exact fun i hc hform hcheck =>
      exec_carriageReturn hne ((judgeText_of_form hc hform).trans (if_pos hcheck))
  · intro kase jacket
    exact ⟨heldScan_table (held := kase) (fun _ _ => rfl) i j,
      heldScan_table (held := jacket) (fun _ _ => rfl) i j⟩
  · intro g w hg hw
    cases o <;> exact s.blockScan_open _ hg hw

end Sys2Proof.Machine
end

section
/-! SUPPORT. What power-on leaves in the Book Table and the Order Table (R13, R54), by POWER_ON and by the
end of the response to RESTART (R169), and the proof of the statement about it. -/

namespace Sys2Proof.Machine

/-! ### The state after power-on -/

@[simp] theorem State.powerOn_table (s : State) (c : RestartCause) :
    (s.powerOn c).table = BookTable.initial := rfl

@[simp] theorem State.powerOn_orders (s : State) (c : RestartCause) : (s.powerOn c).orders = [] := rfl

@[simp] theorem State.powerOn_armed (s : State) (c : RestartCause) :
    (s.powerOn c).io.armed = false := rfl

theorem exec_powerOn (s : State) : exec .powerOn s = .next (s.powerOn .powerOn) := rfl

theorem State.responseSent_restart {s : State} (hrx : s.link.rx = .answering)
    (hdue : s.link.restartDue = true) : s.responseSent = s.powerOn .requested := by
  rw [State.responseSent, hrx]
  exact if_pos hdue

theorem exec_responseSent_restart {s : State} (hrx : s.link.rx = .answering)
    (hdue : s.link.restartDue = true) : exec .responseSent s = .next (s.powerOn .requested) :=
  congrArg Host.Outcome.next (State.responseSent_restart hrx hdue)

/-! ### A table without records, and outputs disarmed -/

theorem State.book?_of_books_nil {s : State} (h : s.table.books = []) (r : Nat) :
    s.book? r = none := by
  rw [State.book?, h, List.find?_nil]

theorem State.freeSlots_of_books_nil {s : State} (h : s.table.books = []) : s.freeSlots = 96 := by
  rw [State.freeSlots, h, List.length_nil]

/-- The infeed permit is off while the outputs are disarmed (R48). -/
theorem State.infeedPermit_of_disarmed {s : State} (h : s.io.armed = false) :
    s.infeedPermit = false := by
  rw [State.infeedPermit, h, Bool.and_false]

/-- The state R54 gives, whatever the cause of the restart. -/
theorem State.powerOn_empties (s : State) (c : RestartCause) :
    (∀ r, (s.powerOn c).book? r = none) ∧ (s.powerOn c).freeSlots = 96 ∧
      (s.powerOn c).table.outcomes = [] ∧ (s.powerOn c).table.nextSeq = 1 ∧
      (s.powerOn c).table.lastLead = none ∧ (s.powerOn c).infeedPermit = false ∧
      (s.powerOn c).orders = [] := by
  have hbooks : (s.powerOn c).table.books = [] := by rw [State.powerOn_table, BookTable.initial]
  exact ⟨State.book?_of_books_nil hbooks, State.freeSlots_of_books_nil hbooks, rfl, rfl, rfl,
    State.infeedPermit_of_disarmed (s.powerOn_armed c), s.powerOn_orders c⟩

/-- Settles O6: both commands leave a state of `State.powerOn`, which holds no record and no order. -/
theorem powerOnEmptiesTheBookTable : Obligations.PowerOnEmptiesTheBookTable := by
  rintro s t (hpower | ⟨hrx, hdue, hsent⟩)
  · obtain rfl := Host.Outcome.next.inj ((exec_powerOn s).symm.trans hpower)
    exact s.powerOn_empties .powerOn
  · obtain rfl := Host.Outcome.next.inj ((exec_responseSent_restart hrx hdue).symm.trans hsent)
    exact s.powerOn_empties .requested

end Sys2Proof.Machine
end

section
/-! SUPPORT. ZONE HALT (R151), the gating of the outputs and what their owners ask for (R48, R95, R134, R155,
R167), and the proofs of the statements about them. -/

namespace Sys2Proof.Machine

/-! ### ZONE HALT (R151) -/

/-- A request whose body is the code of a zone is handled for that zone. -/
theorem oneZone_zoneCode (h : Zone → State → State × Reply) (z : Zone) (s : State) :
    oneZone h [BitVec.ofNat 8 (zoneCode z)] s = h z s := by
  cases z <;> rfl

theorem exec_zoneHalt {s t : State} {body : List Byte} {r : Reply} (hl : s.link.rx ≠ .answering)
    (hh : onZoneHalt body s = (t, r)) : exec (.zoneHalt body) s = .next (t.respond 0x32#8 r) :=
  congrArg Host.Outcome.next (State.takeRequest_of_handler 0x32#8 hl hh)

theorem onZoneHalt_active {s : State} {z : Zone}
    (h : s.zoneState z = .running ∨ s.zoneState z = .draining) :
    onZoneHalt [BitVec.ofNat 8 (zoneCode z)] s = (s.setZone z .stopped, ⟨.ok, []⟩) := by
  rcases h with h | h <;> rw [onZoneHalt, oneZone_zoneCode, h]

theorem onZoneHalt_stopped {s : State} {z : Zone} (h : s.zoneState z = .stopped) :
    onZoneHalt [BitVec.ofNat 8 (zoneCode z)] s = (s, ⟨.ok, []⟩) := by
  rw [onZoneHalt, oneZone_zoneCode, h]

theorem onZoneHalt_wrongState {s : State} {z : Zone}
    (h : s.zoneState z = .faulted ∨ s.zoneState z = .tripped) :
    onZoneHalt [BitVec.ofNat 8 (zoneCode z)] s = (s, refuse .wrongState) := by
  rcases h with h | h <;> rw [onZoneHalt, oneZone_zoneCode, h, State.refused]

@[simp] theorem State.active_iff (s : State) (z : Zone) :
    s.active z = true ↔ s.zoneState z = .running ∨ s.zoneState z = .draining := by
  simp [State.active]

/-- A zone that enters STOPPED changes its state, and stops the staging head's wait if it is zone B and
the wait for a jacket if it is zone C (R148). -/
theorem State.setZone_stopped (s : State) (z : Zone) :
    s.setZone z .stopped = { s with
      zones := s.zones.set z { s.zones.get z with state := .stopped }
      stg := if z = .b then { s.stg with side := s.stg.side.stopTimers } else s.stg
      dlv := if z = .c then { s.dlv with stop := s.dlv.stop.stopTimer } else s.dlv } := by
  cases z with
  | a | p => rfl
  | b => simp [State.setZone, State.stopZoneTimers, State.zoneState]
  | c => simp [State.setZone, State.stopZoneTimers, State.zoneState]

/-- Settles O25: the handler splits on the zone's state, and a halt is the zone's entering STOPPED, whose
two timer stops the statement writes out. -/
theorem zoneHalt : Obligations.ZoneHalt := by
  intro s z hl
  refine ⟨fun hactive => ?_, fun hstopped => exec_zoneHalt hl (onZoneHalt_stopped hstopped),
    fun hfault => exec_zoneHalt hl (onZoneHalt_wrongState hfault)⟩
  rw [exec_zoneHalt hl (onZoneHalt_active hactive), State.setZone_stopped]
  rfl

/-! ### The gating of the outputs (R155) -/

/-- An output point is driven when its owner asks and its mode lets it, under the guard and the arming if
it actuates. -/
theorem State.driven_iff (s : State) (n : Nat) :
    s.driven n = true ↔ (s.ownerRequest n = true ∧
      ((s.point n).mode = .sink ∨ (s.point n).mode = .source)) ∧
      (isActuator n = true → s.io.guardClosed = true ∧ s.io.armed = true) := by
  have hgate : (!isActuator n || (s.io.armed && s.io.guardClosed)) = true ↔
      (isActuator n = true → s.io.guardClosed = true ∧ s.io.armed = true) := by
    cases isActuator n <;> simp [and_comm]
  rw [State.driven, Bool.and_eq_true, Bool.and_eq_true, decide_eq_true_iff, hgate,
    and_comm (a := s.ownerRequest n = true)]

theorem isActuator_iff (n : Nat) : isActuator n = true ↔ 28 ≤ n ∧ n ≤ 48 ∧ n ≠ 47 := by
  simp [isActuator, and_assoc]

theorem State.driven_gated {s : State} {n : Nat} (hact : isActuator n = true)
    (hoff : s.io.guardClosed = false ∨ s.io.armed = false) : s.driven n = false := by
  rw [← Bool.not_eq_true, State.driven_iff]
  rintro ⟨-, hgate⟩
  obtain ⟨hguard, harmed⟩ := hgate hact
  rcases hoff with hopen | hdisarmed
  · exact Bool.noConfusion (hguard.symm.trans hopen)
  · exact Bool.noConfusion (harmed.symm.trans hdisarmed)

theorem State.driven_iff_of_gate {s : State} {n : Nat}
    (hgate : s.io.guardClosed = true ∧ s.io.armed = true ∨ n = 47) :
    s.driven n = true ↔ s.ownerRequest n = true ∧
      ((s.point n).mode = .sink ∨ (s.point n).mode = .source) := by
  rw [State.driven_iff]
  refine and_iff_left fun hact => hgate.resolve_right fun hn => ?_
  exact ((isActuator_iff n).1 hact).2.2 hn

/-! ### Motors, ATTENTION and permits -/

theorem State.motor_iff (s : State) (z : Belt) :
    s.motor z = true ↔
      (s.zoneState (beltZone z) = .running ∨ s.zoneState (beltZone z) = .draining) ∧
        (s.belt z).backPressure = false ∧ s.io.armed = true := by
  simp [State.motor, and_assoc]

theorem State.pressMotor_iff (s : State) :
    s.pressMotor = true ↔
      (s.zoneState .p = .running ∨ s.zoneState .p = .draining) ∧ s.io.armed = true := by
  simp [State.pressMotor]

theorem Zone.any_iff (p : Zone → Bool) :
    [Zone.a, .b, .p, .c].any p = true ↔ ∃ z, p z = true := by
  rw [List.any_eq_true]
  exact exists_congr fun z => and_iff_right (by cases z <;> decide)

theorem State.attention_iff (s : State) :
    s.attention = true ↔ (∃ z, s.zoneState z = .faulted ∨ s.zoneState z = .tripped) ∨
      s.cfg.threshold ≤ s.table.outcomes.length ∨ ∃ o ∈ s.orders, o.unreported = true := by
  have hcount : 1 ≤ s.unreportedCount ↔ ∃ o ∈ s.orders, o.unreported = true := List.countP_pos_iff
  simp only [State.attention, Bool.or_eq_true, Zone.any_iff, decide_eq_true_eq, hcount, or_assoc]
  rfl

theorem State.infeedPermit_iff (s : State) :
    s.infeedPermit = true ↔ s.zoneState .a = .running ∧ (s.belt .a).backPressure = false ∧
      s.cfg.reserve < 96 - s.table.books.length ∧ s.table.transit.length < 8 ∧
        s.io.armed = true := by
  simp only [State.infeedPermit, Bool.and_eq_true, Bool.not_eq_true', decide_eq_true_eq, and_assoc]
  rfl

theorem State.caseFeedPermit_iff (s : State) :
    s.caseFeedPermit = true ↔
      s.stg.cases.length < 6 ∧ s.zoneState .b ≠ .tripped ∧ s.io.armed = true := by
  simp [State.caseFeedPermit, and_assoc]

theorem State.jacketFeedPermit_iff (s : State) :
    s.jacketFeedPermit = true ↔
      s.dlv.jackets.length < 6 ∧ s.zoneState .c ≠ .tripped ∧ s.io.armed = true := by
  simp [State.jacketFeedPermit, and_assoc]

/-! ### Operations in flight -/

/-- The staging outputs follow the operation in flight at the staging head (6.3). -/
theorem State.stagingRequests_iff (s : State) :
    (s.ownerRequest 32 = true ↔ ∃ u, s.stg.side = .forwardInFlight u) ∧
    (s.ownerRequest 33 = true ↔ ∃ u, s.stg.side = .rejectInFlight u) ∧
    (s.ownerRequest 35 = true ↔ ∃ u, s.stg.side = .ejectInFlight u) := by
  cases h : s.stg.side <;> simp [State.ownerRequest, StagingSide.ejecting, h]

/-- The casing outputs follow the operation in flight in the casing section (6.3). -/
theorem State.casingRequests_iff (s : State) :
    (s.ownerRequest 36 = true ↔ ∃ r u, s.stg.casing = .inCycle r u) ∧
    (s.ownerRequest 37 = true ↔ ∃ r u, s.stg.casing = .releasing r u) := by
  cases h : s.stg.casing <;> simp [State.ownerRequest, h]

/-- The press outputs follow the index in flight and what it loads and unloads (7.4). -/
theorem State.pressRequests_iff (s : State) :
    (s.ownerRequest 38 = true ↔ ∃ op, s.press.index = some op) ∧
    (s.ownerRequest 39 = true ↔ ∃ op x, s.press.index = some op ∧ op.load = some x) ∧
    (s.ownerRequest 40 = true ↔ ∃ op x, s.press.index = some op ∧ op.unload = some x) := by
  cases h : s.press.index <;> simp [State.ownerRequest, h, Option.isSome_iff_exists]

/-- The jacketing outputs follow the operation in flight at the jacket stop (8.2). -/
theorem State.jacketRequests_iff (s : State) :
    (s.ownerRequest 42 = true ↔ ∃ r u, s.dlv.stop = .ejectInFlight r u) ∧
    (s.ownerRequest 43 = true ↔ ∃ r u, s.dlv.stop = .inCycle r u) ∧
    (s.ownerRequest 44 = true ↔ ∃ r u, s.dlv.stop = .releasing r u) := by
  cases h : s.dlv.stop <;> simp [State.ownerRequest, h]

/-- The gate outputs follow the gate setting (R143). -/
theorem State.gateRequests_iff (s : State) :
    (s.ownerRequest 45 = true ↔ s.dlv.gate = .inspect) ∧
    (s.ownerRequest 46 = true ↔ s.dlv.gate = .reject) :=
  ⟨decide_eq_true_iff, decide_eq_true_iff⟩

/-- Settles O55: the gating is `State.driven_iff`, and each role's request is read off what its owner
holds. -/
theorem outputsAreGated : Obligations.OutputsAreGated := by
  refine ⟨fun s => ⟨s.motor_iff, rfl, rfl, rfl, s.pressMotor_iff, s.attention_iff, ?_, ?_⟩,
    fun s => ⟨s.caseFeedPermit_iff, s.jacketFeedPermit_iff⟩, fun s => ?_⟩
  · exact fun n hlo hhi hne hoff => State.driven_gated ((isActuator_iff n).2 ⟨hlo, hhi, hne⟩) hoff
  · exact fun n _ _ hgate => State.driven_iff_of_gate hgate
  · obtain ⟨hinspect, hreject⟩ := s.gateRequests_iff
    obtain ⟨hforward, hside, hcase⟩ := s.stagingRequests_iff
    obtain ⟨hcycle, hrelease⟩ := s.casingRequests_iff
    obtain ⟨hindex, hload, hunload⟩ := s.pressRequests_iff
    exact ⟨s.infeedPermit_iff, hinspect, hreject, hforward, hside, hcase, hcycle, hrelease, hindex,
      hload, hunload, s.jacketRequests_iff⟩

end Sys2Proof.Machine
end

section
/-! SUPPORT. Once, what every operation keeps of the capacities, the slots of the Book Table, the Order
Table and the configuration: the relation `Keeps`, and that each operation of the model is within it. -/

namespace Sys2Proof.Machine

/-! ### The slots and the order numbers by themselves -/

/-- What the slots' accounts take of a record: its slot, and whether it is retired. -/
def Book.tag (b : Book) : Nat × Bool := (b.slot, !b.live)

/-- What the Order Table's distinctness takes of an entry: its entry slot and its number. -/
def Order.key (o : Order) : Nat × Nat := (o.slot, o.tmpl.order)

@[simp] theorem Book.live_iff (b : Book) : b.live = true ↔ b.life ≠ .retired := decide_eq_true_iff

theorem Book.tag_eq_iff {b c : Book} :
    c.tag = b.tag ↔ c.slot = b.slot ∧ (c.life = .retired ↔ b.life = .retired) := by
  simp [Book.tag, Book.live]

theorem mem_tags_retired {l : List Book} {r : Nat} :
    (r, true) ∈ l.map Book.tag ↔ ∃ b ∈ l, b.slot = r ∧ b.life = .retired := by
  simp [Book.tag, Book.live]

/-- The accounts of the slots speak of the records' tags and of the outcome list alone. -/
theorem State.slotsAccounted_iff (s : State) :
    s.SlotsAccounted ↔ (∀ p ∈ s.table.books.map Book.tag, 1 ≤ p.1 ∧ p.1 ≤ 96) ∧
      ((s.table.books.map Book.tag).map (·.1)).Nodup ∧ s.table.outcomes.Nodup ∧
      ∀ r, r ∈ s.table.outcomes ↔ (r, true) ∈ s.table.books.map Book.tag := by
  have hslots : (s.table.books.map Book.tag).map (·.1) = s.table.books.map (·.slot) := by
    rw [List.map_map]; rfl
  simp only [mem_tags_retired, hslots, List.forall_mem_map]
  exact ⟨fun ⟨h1, h2, h3, h4⟩ => ⟨h1, h2, h3, h4⟩, fun ⟨h1, h2, h3, h4⟩ => ⟨h1, h2, h3, h4⟩⟩

/-- The distinctness of the orders speaks of their keys alone. -/
theorem State.ordersDistinct_iff (s : State) :
    s.OrdersDistinct ↔ (∀ p ∈ s.orders.map Order.key, 1 ≤ p.1 ∧ p.1 ≤ 24) ∧
      ((s.orders.map Order.key).map (·.1)).Nodup ∧ ((s.orders.map Order.key).map (·.2)).Nodup := by
  have hslots : (s.orders.map Order.key).map (·.1) = s.orders.map (·.slot) := by
    rw [List.map_map]; rfl
  have hnumbers : (s.orders.map Order.key).map (·.2) = s.orders.map (·.tmpl.order) := by
    rw [List.map_map]; rfl
  rw [hslots, hnumbers, List.forall_mem_map]
  exact ⟨fun ⟨h1, h2, h3⟩ => ⟨h1, h2, h3⟩, fun ⟨h1, h2, h3⟩ => ⟨h1, h2, h3⟩⟩

/-- Where the slots are accounted for, a record of the table is the one read from its slot. -/
theorem State.SlotsAccounted.book?_of_mem {s : State} (h : s.SlotsAccounted) {b : Book}
    (hb : b ∈ s.table.books) : s.book? b.slot = some b := by
  cases hc : s.book? b.slot with
  | none => simpa using List.find?_eq_none.1 hc b hb
  | some c =>
    have hslot := State.slot_of_book? hc
    rw [List.inj_on_of_nodup_map h.nodup (State.mem_of_book? hc) hb hslot]

/-! ### The relation -/

/-- While a release is in flight at the jacket stop, zone C has no back-pressure. -/
def State.StopRests (s : State) : Prop :=
  (∃ r u, s.dlv.stop = .releasing r u) → (s.belt .c).backPressure = false

/-- The operation that leads from `s` to `t` keeps every invariant that speaks of collections, records,
orders and configuration, and the rest of zone C's back-pressure. -/
structure Keeps (s t : State) : Prop where
  capacity : s.WithinCapacity → t.WithinCapacity
  reserved : s.ReservedIsHead → t.ReservedIsHead
  slots : s.SlotsAccounted → t.SlotsAccounted
  configured : s.Configured → t.Configured
  orders : s.OrdersDistinct → t.OrdersDistinct
  rests : s.StopRests → t.StopRests

theorem Keeps.refl (s : State) : Keeps s s := ⟨id, id, id, id, id, id⟩

theorem Keeps.trans {s t u : State} (h : Keeps s t) (g : Keeps t u) : Keeps s u where
  capacity := g.capacity ∘ h.capacity
  reserved := g.reserved ∘ h.reserved
  slots := g.slots ∘ h.slots
  configured := g.configured ∘ h.configured
  orders := g.orders ∘ h.orders
  rests := g.rests ∘ h.rests

/-- `Keeps.trans` with the later operation given first, which tells the state between. -/
theorem Keeps.after {s t u : State} (g : Keeps t u) (h : Keeps s t) : Keeps s u := h.trans g

/-- No collection has grown. -/
structure Shrinks (s t : State) : Prop where
  transit : t.table.transit.length ≤ s.table.transit.length
  staging : t.stg.queue.length ≤ s.stg.queue.length
  pressApproach : t.table.pressApproach.length ≤ s.table.pressApproach.length
  pressQueue : t.press.queue.length ≤ s.press.queue.length
  pockets : t.press.pockets.length = s.press.pockets.length
  rotation : t.press.rotation = s.press.rotation
  jacketApproach : t.table.jacketApproach.length ≤ s.table.jacketApproach.length
  delivery : t.table.delivery.length ≤ s.table.delivery.length
  cases : t.stg.cases.length ≤ s.stg.cases.length
  jackets : t.dlv.jackets.length ≤ s.dlv.jackets.length

theorem Shrinks.capacity {s t : State} (h : Shrinks s t) (w : s.WithinCapacity) :
    t.WithinCapacity where
  transit := h.transit.trans w.transit
  staging := h.staging.trans w.staging
  pressApproach := h.pressApproach.trans w.pressApproach
  pressQueue := h.pressQueue.trans w.pressQueue
  pockets := h.pockets.trans w.pockets
  rotation := h.rotation ▸ w.rotation
  jacketApproach := h.jacketApproach.trans w.jacketApproach
  delivery := h.delivery.trans w.delivery
  cases := h.cases.trans w.cases
  jackets := h.jackets.trans w.jackets

theorem stopRests_of_not {s : State} (h : ∀ r u, s.dlv.stop ≠ .releasing r u) : s.StopRests :=
  fun ⟨r, u, hstop⟩ => absurd hstop (h r u)

theorem stopRests_setStop (s : State) {x : JacketStop} (h : ∀ r u, x ≠ .releasing r u) :
    (s.setStop x).StopRests := stopRests_of_not h

/-- The stop and the flag of zone C alone tell whether the flag rests during a release. -/
theorem stopRests_of_eq {s t : State} (hstop : t.dlv.stop = s.dlv.stop)
    (hflag : (t.belt .c).backPressure = (s.belt .c).backPressure) (h : s.StopRests) :
    t.StopRests := by
  rw [State.StopRests, hstop, hflag]
  exact h

theorem JacketStop.releasing_of_stopTimer {x : JacketStop} {r : Nat} {u : Timer}
    (h : x.stopTimer = .releasing r u) : x = .releasing r u := by
  cases x with
  | releasing q v => exact h
  | empty | waiting | ejectInFlight | inCycle | done => cases h

/-- The test of zone C itself finds nothing full during a release. -/
theorem stopRests_bpTest_c (s : State) : (s.bpTest .c).StopRests := by
  rintro ⟨r, u, hstop⟩
  have hfull : s.downstreamFull .c = false := congrArg JacketStop.full hstop
  simp [State.bpNext, hfull]

theorem State.StopRests.bpTest {s : State} (h : s.StopRests) (z : Belt) : (s.bpTest z).StopRests := by
  cases z with
  | c => exact stopRests_bpTest_c s
  | a | b => exact stopRests_of_eq (s := s) rfl (by simp) h

/-- The configuration and the index period alone tell whether they are in order. -/
theorem configured_of_eq {s t : State} (hcfg : t.cfg = s.cfg)
    (hperiod : t.press.period = s.press.period) (h : s.Configured) : t.Configured where
  ranges := by rw [hcfg]; exact h.ranges
  constraints := by rw [hcfg]; exact h.constraints
  period := by rw [hcfg, hperiod]; exact h.period

theorem reserved_of_subset {s t : State} (hc : t.stg.cases.tail ⊆ s.stg.cases.tail)
    (h : s.ReservedIsHead) : t.ReservedIsHead := fun e he => h e (hc he)

theorem slots_of_eq {s t : State} (htags : t.table.books.map Book.tag = s.table.books.map Book.tag)
    (hout : t.table.outcomes = s.table.outcomes) (h : s.SlotsAccounted) : t.SlotsAccounted := by
  rw [State.slotsAccounted_iff] at h ⊢
  rwa [htags, hout]

theorem orders_of_eq {s t : State} (hkeys : t.orders.map Order.key = s.orders.map Order.key)
    (h : s.OrdersDistinct) : t.OrdersDistinct := by
  rw [State.ordersDistinct_iff] at h ⊢
  rwa [hkeys]

/-- An operation under which no collection grows, and which leaves the tags, the keys and the
configuration. -/
theorem keeps_of_shrinks {s t : State} (hs : Shrinks s t)
    (hcases : t.stg.cases.tail ⊆ s.stg.cases.tail)
    (htags : t.table.books.map Book.tag = s.table.books.map Book.tag)
    (hout : t.table.outcomes = s.table.outcomes) (hcfg : t.cfg = s.cfg)
    (hperiod : t.press.period = s.press.period)
    (hkeys : t.orders.map Order.key = s.orders.map Order.key)
    (hrests : s.StopRests → t.StopRests) : Keeps s t where
  capacity := hs.capacity
  reserved := reserved_of_subset hcases
  slots := slots_of_eq htags hout
  configured := configured_of_eq hcfg hperiod
  orders := orders_of_eq hkeys
  rests := hrests

/-- The operation leaves all that the invariants speak of. -/
theorem keeps_of_eq {s t : State} (htable : t.table = s.table) (hqueue : t.stg.queue = s.stg.queue)
    (hcases : t.stg.cases = s.stg.cases) (hpress : t.press.queue = s.press.queue)
    (hpockets : t.press.pockets = s.press.pockets) (hrotation : t.press.rotation = s.press.rotation)
    (hperiod : t.press.period = s.press.period) (hjackets : t.dlv.jackets = s.dlv.jackets)
    (hcfg : t.cfg = s.cfg) (horders : t.orders = s.orders)
    (hrests : s.StopRests → t.StopRests) : Keeps s t := by
  refine keeps_of_shrinks ⟨?_, ?_, ?_, ?_, ?_, ?_, ?_, ?_, ?_, ?_⟩ ?_ ?_ ?_ hcfg hperiod ?_ hrests <;>
    simp [*]

/-! ### Updates of records and orders -/

theorem tags_updBook (s : State) (r : Nat) (f : Book → Book)
    (h : ∀ b ∈ s.table.books, b.slot = r → (f b).tag = b.tag) :
    (s.updBook r f).table.books.map Book.tag = s.table.books.map Book.tag := by
  show (s.table.books.map _).map _ = _
  rw [List.map_map]
  refine List.map_congr_left fun b hb => ?_
  simp only [Function.comp_apply, beq_iff_eq]
  split
  · next hr => exact h b hb hr
  · rfl

/-- An update of records that leaves the tag of each. -/
theorem keeps_updBook (s : State) (r : Nat) (f : Book → Book) (h : ∀ b, (f b).tag = b.tag) :
    Keeps s (s.updBook r f) := by
  refine keeps_of_shrinks ⟨?_, ?_, ?_, ?_, ?_, ?_, ?_, ?_, ?_, ?_⟩ ?_
    (tags_updBook s r f fun b _ _ => h b) ?_ ?_ ?_ ?_ id <;> simp

/-- A live record moves to another state of the live: its tag stays where each slot holds one record. -/
theorem tags_updBook_live {s : State} (hs : s.SlotsAccounted) {r : Nat} {b : Book} {f : Book → Book}
    (hb : s.book? r = some b) (hlive : b.life ≠ .retired) (hslot : (f b).slot = b.slot)
    (hf : (f b).life ≠ .retired) :
    (s.updBook r f).table.books.map Book.tag = s.table.books.map Book.tag := by
  refine tags_updBook s r f fun c hc hr => ?_
  have h := hs.book?_of_mem hc
  rw [hr, hb] at h
  obtain rfl := Option.some.inj h
  exact Book.tag_eq_iff.2 ⟨hslot, by simp [hlive, hf]⟩

/-- A move of a live record to another state of the live. -/
theorem keeps_updBook_live {s : State} {r : Nat} {b : Book} (f : Book → Book)
    (hb : s.book? r = some b) (hlive : b.life ≠ .retired) (hslot : (f b).slot = b.slot)
    (hf : (f b).life ≠ .retired) : Keeps s (s.updBook r f) where
  capacity h := { h with }
  reserved h := h
  slots h := slots_of_eq (tags_updBook_live h hb hlive hslot hf) rfl h
  configured h := { h with }
  orders h := { h with }
  rests := id

theorem keys_updOrder (s : State) (n : Nat) (f : Order → Order)
    (h : ∀ o, o.tmpl.order = n → (f o).key = o.key) :
    (s.updOrder n f).orders.map Order.key = s.orders.map Order.key := by
  show (s.orders.map _).map _ = _
  rw [List.map_map]
  refine List.map_congr_left fun o _ => ?_
  simp only [Function.comp_apply, beq_iff_eq]
  split
  · next hn => exact h o hn
  · rfl

/-- An update of an order that leaves its entry slot and its number. -/
theorem keeps_updOrder (s : State) (n : Nat) (f : Order → Order)
    (h : ∀ o, o.tmpl.order = n → (f o).key = o.key) : Keeps s (s.updOrder n f) where
  capacity w := { w with }
  reserved w := w
  slots w := { w with }
  configured w := { w with }
  orders := orders_of_eq (keys_updOrder s n f h)
  rests := id

theorem Order.key_account (o : Order) (out : BookOutcome) (copy : Nat) (now : Clock) :
    (o.account out copy now).key = o.key := by
  have h (o : Order) : o.testCompletion.key = o.key := by unfold Order.testCompletion; split <;> rfl
  cases out
  case good | inspect => exact h _
  all_goals rfl

/-! ### The decisions of the units -/

theorem Book.Decided.tag {b c : Book} (h : b.Decided c) : c.tag = b.tag := by
  have hslot : c.fixed.slot = b.fixed.slot := by rw [h.fixed]
  have hlife : c.fixed.life = b.fixed.life := by rw [h.fixed]
  exact Book.tag_eq_iff.2 ⟨hslot, by rw [show c.life = b.life from hlife]⟩

theorem tags_of_decided {k l : List Book} (h : List.Forall₂ Book.Decided k l) :
    l.map Book.tag = k.map Book.tag := by
  induction h with
  | nil => rfl
  | cons hbc _ ih => rw [List.map_cons, List.map_cons, hbc.tag, ih]

/-- What a decision does to the cases and jackets that stand in its queues: none is added, and none but
the head is reserved; and the flag of zone C rests during a release. -/
structure Stores (s t : State) : Prop where
  cases : t.stg.cases.length ≤ s.stg.cases.length
  reserved : t.stg.cases.tail ⊆ s.stg.cases.tail
  jackets : t.dlv.jackets.length ≤ s.dlv.jackets.length
  rests : s.StopRests → t.StopRests

theorem Stores.refl (s : State) : Stores s s := ⟨le_rfl, fun _ h => h, le_rfl, id⟩

theorem Stores.trans {s t u : State} (h : Stores s t) (g : Stores t u) : Stores s u :=
  ⟨g.cases.trans h.cases, fun _ he => h.reserved (g.reserved he), g.jackets.trans h.jackets,
    g.rests ∘ h.rests⟩

theorem Stores.after {s t u : State} (g : Stores t u) (h : Stores s t) : Stores s u := h.trans g

theorem stores_of_eq {s t : State} (hcases : t.stg.cases = s.stg.cases)
    (hjackets : t.dlv.jackets = s.dlv.jackets)
    (hrests : s.StopRests → t.StopRests) : Stores s t :=
  ⟨hcases ▸ le_rfl, hcases ▸ fun _ h => h, hjackets ▸ le_rfl, hrests⟩

/-- A decision that stores nothing keeps the invariants. -/
theorem Decides.keeps {s t : State} (h : Decides s t) (g : Stores s t) : Keeps s t := by
  obtain ⟨htable, hpress⟩ := And.intro h.table h.press
  have hout : t.table.outcomes = s.table.outcomes := by rw [← htable]
  have htransit : t.table.transit = s.table.transit := by rw [← htable]
  have happroach : t.table.pressApproach = s.table.pressApproach := by rw [← htable]
  have hjacket : t.table.jacketApproach = s.table.jacketApproach := by rw [← htable]
  have hdelivery : t.table.delivery = s.table.delivery := by rw [← htable]
  have hqueue : t.press.queue = s.press.queue := by rw [← hpress]
  have hpockets : t.press.pockets = s.press.pockets := by rw [← hpress]
  have hrotation : t.press.rotation = s.press.rotation := by rw [← hpress]
  have hperiod : t.press.period = s.press.period := by rw [← hpress]
  exact keeps_of_shrinks
    ⟨by rw [htransit], by rw [h.queue], by rw [happroach], by rw [hqueue], by rw [hpockets],
      hrotation, by rw [hjacket], by rw [hdelivery], g.cases, g.jackets⟩
    g.reserved (tags_of_decided h.books) hout h.cfg hperiod (by rw [h.orders]) g.rests

@[simp] theorem length_markHead (v : Bool) (l : List CaseEntry) : (markHead v l).length = l.length := by
  cases l <;> rfl

@[simp] theorem tail_markHead (v : Bool) (l : List CaseEntry) : (markHead v l).tail = l.tail := by
  cases l <;> rfl

theorem stores_decideCase (s : State) (x : Book) (h : CaseEntry) (behind : List CaseEntry) :
    Stores s (s.decideCase x h behind) := by
  unfold State.decideCase State.commandForward State.waitCase
  split
  · exact stores_of_eq rfl rfl id
  · exact ⟨by simp, by simp, le_rfl, id⟩
  · split
    · exact stores_of_eq rfl rfl id
    · split
      · split <;> exact stores_of_eq rfl rfl id
      · exact stores_of_eq rfl rfl id

theorem stores_decideHead (s : State) (x : Book) : Stores s (s.decideHead x) := by
  have hcase : Stores s s.waitCase := by unfold State.waitCase; split <;> exact stores_of_eq rfl rfl id
  have hearly : Stores s s.waitEarly := by unfold State.waitEarly; split <;> exact stores_of_eq rfl rfl id
  unfold State.decideHead
  split
  · exact .refl s
  · split
    · exact stores_of_eq rfl rfl id
    · split
      · exact stores_of_eq rfl rfl id
      · split
        · exact hearly
        · split
          · exact stores_of_eq rfl rfl id
          · split
            · exact hcase
            · exact stores_decideCase s x _ _

theorem stores_stagingDecide (s : State) : Stores s s.stagingDecide := by
  unfold State.stagingDecide
  split
  · split
    · exact stores_decideHead s _
    · exact .refl s
  · exact .refl s

theorem stores_casingReleaseTest (s : State) : Stores s s.casingReleaseTest := by
  unfold State.casingReleaseTest
  split
  · split <;> exact stores_of_eq rfl rfl id
  all_goals exact .refl s

theorem length_shootReserved (l : List CaseEntry) : (shootReserved l).length ≤ l.length := by
  cases l with
  | nil => exact le_rfl
  | cons e l => rw [shootReserved]; split <;> simp

theorem tail_shootReserved (l : List CaseEntry) : (shootReserved l).tail ⊆ l.tail := by
  cases l with
  | nil => exact fun _ h => h
  | cons e l =>
    rw [shootReserved]
    split
    · exact List.tail_subset l
    · exact fun _ h => h

theorem stores_casingCycleTest (s : State) : Stores s s.casingCycleTest := by
  unfold State.casingCycleTest
  split
  · split
    · exact (stores_stagingDecide _).after ⟨length_shootReserved _, tail_shootReserved _, le_rfl, id⟩
    · exact .refl s
  all_goals exact .refl s

theorem stores_jacketReleaseTest (s : State) : Stores s s.jacketReleaseTest := by
  unfold State.jacketReleaseTest
  split
  · split
    · exact stores_of_eq rfl rfl fun _ => stopRests_bpTest_c _
    · exact .refl s
  all_goals exact .refl s

theorem stores_releaseUnjacketed (s : State) (x : Book) : Stores s (s.releaseUnjacketed x) := by
  unfold State.releaseUnjacketed
  dsimp only
  split <;> exact (stores_jacketReleaseTest _).after
    (stores_of_eq rfl rfl fun _ => stopRests_setStop _ nofun)

theorem stores_decideStop (s : State) (x : Book) (timer : Option Timer) :
    Stores s (s.decideStop x timer) := by
  unfold State.decideStop
  split
  · exact stores_releaseUnjacketed s x
  · split
    · exact stores_of_eq rfl rfl fun _ => stopRests_setStop _ nofun
    · next hj =>
      split
      · exact ⟨le_rfl, fun _ h => h, by simp [State.beginJacketCycle, hj],
          fun _ => stopRests_of_not nofun⟩
      case h_5 => exact stores_releaseUnjacketed s x
      all_goals exact stores_of_eq rfl rfl fun _ => stopRests_setStop _ nofun

theorem stores_jacketDecide (s : State) : Stores s s.jacketDecide := by
  unfold State.jacketDecide
  split
  · split
    · split
      · exact stores_decideStop s _ _
      · exact .refl s
    · exact .refl s
  all_goals exact .refl s

theorem stores_pressTest (s : State) : Stores s s.pressTest := by
  unfold State.pressTest
  split <;> exact stores_of_eq rfl rfl id

theorem stores_stopZoneTimers (s : State) (z : Zone) : Stores s (s.stopZoneTimers z) := by
  unfold State.stopZoneTimers
  split
  case h_1 => split <;> exact stores_of_eq rfl rfl id
  case h_2 =>
    split
    · exact stores_of_eq rfl rfl id
    · exact stores_of_eq rfl rfl fun h ⟨r, u, hstop⟩ =>
        h ⟨r, u, JacketStop.releasing_of_stopTimer hstop⟩
  all_goals exact .refl s

theorem stores_drainTest (s : State) (z : Zone) : Stores s (s.drainTest z) := by
  unfold State.drainTest
  split
  · exact (stores_stopZoneTimers _ z).after (stores_of_eq rfl rfl id)
  · exact .refl s

theorem stores_drainTests (s : State) : Stores s s.drainTests :=
  (((stores_drainTest s .a).trans (stores_drainTest _ .b)).trans (stores_drainTest _ .p)).trans
    (stores_drainTest _ .c)

theorem stores_announce (s : State) : Stores s s.announce :=
  (stores_stagingDecide s).trans (stores_jacketDecide _)

theorem stores_bpTest (s : State) (z : Belt) : Stores s (s.bpTest z) :=
  stores_of_eq rfl rfl fun h => h.bpTest z

theorem stores_bpTests (s : State) : Stores s s.bpTests :=
  ((stores_bpTest s .a).trans (stores_bpTest _ .b)).trans (stores_bpTest _ .c)

theorem stores_follow (s : State) : Stores s s.follow :=
  ((((stores_bpTests s).trans (stores_casingReleaseTest _)).trans (stores_announce _)).trans
    (stores_jacketReleaseTest _)).trans (stores_drainTests _)

theorem keeps_stagingDecide (s : State) : Keeps s s.stagingDecide :=
  (decides_stagingDecide s).keeps (stores_stagingDecide s)

theorem keeps_casingReleaseTest (s : State) : Keeps s s.casingReleaseTest :=
  (decides_casingReleaseTest s).keeps (stores_casingReleaseTest s)

theorem keeps_casingCycleTest (s : State) : Keeps s s.casingCycleTest :=
  (decides_casingCycleTest s).keeps (stores_casingCycleTest s)

theorem keeps_jacketReleaseTest (s : State) : Keeps s s.jacketReleaseTest :=
  (decides_jacketReleaseTest s).keeps (stores_jacketReleaseTest s)

theorem keeps_jacketDecide (s : State) : Keeps s s.jacketDecide :=
  (decides_jacketDecide s).keeps (stores_jacketDecide s)

theorem keeps_announce (s : State) : Keeps s s.announce :=
  (decides_announce s).keeps (stores_announce s)

theorem keeps_pressTest (s : State) : Keeps s s.pressTest :=
  (decides_pressTest s).keeps (stores_pressTest s)

theorem keeps_stopZoneTimers (s : State) (z : Zone) : Keeps s (s.stopZoneTimers z) :=
  (decides_stopZoneTimers s z).keeps (stores_stopZoneTimers s z)

theorem keeps_drainTest (s : State) (z : Zone) : Keeps s (s.drainTest z) :=
  (decides_drainTest s z).keeps (stores_drainTest s z)

theorem keeps_drainTests (s : State) : Keeps s s.drainTests :=
  (decides_drainTests s).keeps (stores_drainTests s)

theorem keeps_bpTest (s : State) (z : Belt) : Keeps s (s.bpTest z) :=
  (decides_bpTest s z).keeps (stores_bpTest s z)

theorem keeps_bpTests (s : State) : Keeps s s.bpTests := (decides_bpTests s).keeps (stores_bpTests s)

theorem keeps_follow (s : State) : Keeps s s.follow := (decides_follow s).keeps (stores_follow s)

end Sys2Proof.Machine
end

section
/-! SUPPORT. `Keeps` for what the line does: faults, retirement, identification and gauging, the watch
points' heads, the counts and the eye edges. -/

namespace Sys2Proof.Machine

/-! ### Faults and the small updates of the units -/

theorem keeps_setZone (s : State) (z : Zone) (x : ZoneState) : Keeps s (s.setZone z x) :=
  (keeps_stopZoneTimers _ z).after (keeps_of_eq rfl rfl rfl rfl rfl rfl rfl rfl rfl rfl id)

theorem keeps_fault (s : State) (z : Zone) (c : FaultCode) : Keeps s (s.fault z c) := by
  have hzones (k : ZoneCtl) : Keeps s { s with zones := s.zones.set z k } := by
    exact keeps_of_eq rfl rfl rfl rfl rfl rfl rfl rfl rfl rfl id
  unfold State.fault
  dsimp only
  split
  case h_4 => exact hzones _
  case h_5 => split <;> exact hzones _
  all_goals exact (hzones _).trans (keeps_stopZoneTimers _ z)

theorem keeps_setSide (s : State) (x : StagingSide) : Keeps s (s.setSide x) :=
  keeps_of_eq rfl rfl rfl rfl rfl rfl rfl rfl rfl rfl id

theorem keeps_setCasing (s : State) (x : CasingSide) : Keeps s (s.setCasing x) :=
  keeps_of_eq rfl rfl rfl rfl rfl rfl rfl rfl rfl rfl id

theorem keeps_setStop (s : State) (x : JacketStop) (h : ∀ r u, x ≠ .releasing r u) :
    Keeps s (s.setStop x) :=
  keeps_of_eq rfl rfl rfl rfl rfl rfl rfl rfl rfl rfl fun _ => stopRests_setStop s h

theorem keeps_setOpened (s : State) (w : Watch) (v : Bool) : Keeps s (s.setOpened w v) :=
  keeps_of_eq rfl rfl rfl rfl rfl rfl rfl rfl rfl rfl id

theorem keeps_setGauging (s : State) (g : Option Gauging) : Keeps s (s.setGauging g) :=
  keeps_of_eq rfl rfl rfl rfl rfl rfl rfl rfl rfl rfl id

theorem keeps_setBelt (s : State) (z : Belt) (k : BeltState)
    (h : k.backPressure = (s.belt z).backPressure) : Keeps s (s.setBelt z k) :=
  keeps_of_eq rfl rfl rfl rfl rfl rfl rfl rfl rfl rfl
    (stopRests_of_eq rfl (by cases z with
    | a | b => rfl
    | c => exact h))

theorem keeps_noteEdge (s : State) (e : Eye) : Keeps s (s.noteEdge e) :=
  keeps_of_eq rfl rfl rfl rfl rfl rfl rfl rfl rfl rfl id

theorem keeps_markHere (s : State) (z : Belt) : Keeps s (s.markHere z) := keeps_setBelt s z _ rfl

theorem keeps_setPoint (s : State) (n : Nat) (p : Point) : Keeps s (s.setPoint n p) :=
  keeps_of_eq rfl rfl rfl rfl rfl rfl rfl rfl rfl rfl id

theorem keeps_setText (s : State) (p : Port) (t : RxText) : Keeps s (s.setText p t) :=
  keeps_of_eq rfl rfl rfl rfl rfl rfl rfl rfl rfl rfl id

theorem keeps_reach (s : State) (t : Timer) : Keeps s (s.reach t) := by
  unfold State.reach
  split
  · exact .refl s
  · exact keeps_of_eq rfl rfl rfl rfl rfl rfl rfl rfl rfl rfl id

theorem keeps_unreserve (s : State) : Keeps s s.unreserve :=
  (decides_staging s s.stg.side (markHead false s.stg.cases)).keeps ⟨by simp, by simp, le_rfl, id⟩

theorem keeps_setReason (s : State) (r : Nat) (why : Reason) : Keeps s (s.setReason r why) :=
  keeps_updBook s r _ fun b => by split <;> rfl

theorem keeps_setJacketResult (s : State) (r : Nat) (res : JacketResult) :
    Keeps s (s.setJacketResult r res) := keeps_updBook s r _ fun _ => rfl

theorem keeps_unbind (s : State) (r : Nat) (why : Reason) : Keeps s (s.unbind r why) :=
  keeps_updBook s r _ fun b => by split <;> [split <;> rfl; rfl]

theorem keeps_countCaseEjection (s : State) (i : Identity) : Keeps s (s.countCaseEjection i) := by
  cases i with
  | ident i => exact keeps_updOrder s i.order _ fun _ _ => rfl
  | unreadable | conflict => exact .refl s

theorem keeps_countJacketEjection (s : State) (i : Identity) : Keeps s (s.countJacketEjection i) := by
  cases i with
  | ident i => exact keeps_updOrder s i.order _ fun _ _ => rfl
  | unreadable | conflict => exact .refl s

theorem keeps_removeEjectedCase (s : State) : Keeps s s.removeEjectedCase := by
  unfold State.removeEjectedCase
  split
  · exact .refl s
  · next e rest h =>
    refine (keeps_countCaseEjection _ _).after
      ((decides_staging s s.stg.side rest).keeps ⟨?_, ?_, le_rfl, id⟩)
    · simp [h]
    · simpa [h] using List.tail_subset rest

theorem keeps_removeEjectedJacket (s : State) : Keeps s s.removeEjectedJacket := by
  unfold State.removeEjectedJacket
  split
  · exact .refl s
  · next e rest h =>
    refine (keeps_countJacketEjection _ _).after
      ((decides_stop s s.dlv.stop rest rfl).keeps ⟨le_rfl, fun _ h => h, ?_, id⟩)
    simp [h]

/-! ### Retirement (R46) -/

theorem keeps_accountRetirement (s : State) (b : Book) (out : BookOutcome) :
    Keeps s (s.accountRetirement b out) := by
  unfold State.accountRetirement
  split
  · exact keeps_updOrder s _ _ fun o _ => o.key_account _ _ _
  · exact .refl s

theorem keeps_endGaugingOf (s : State) (r : Nat) : Keeps s (s.endGaugingOf r) := by
  unfold State.endGaugingOf
  split
  · split
    · exact keeps_setGauging s none
    · exact .refl s
  · exact .refl s

theorem keeps_leaveCollections (s : State) (r : Nat) : Keeps s (s.leaveCollections r) := by
  refine keeps_of_shrinks ⟨?_, ?_, ?_, ?_, ?_, rfl, ?_, ?_, le_rfl, le_rfl⟩ (fun _ h => h) rfl rfl rfl
    rfl rfl fun h ⟨q, u, hstop⟩ => ?_
  case refine_5 => simp [State.leaveCollections]
  case refine_8 =>
    change (if s.dlv.stop.record? = some r then .empty else s.dlv.stop) = _ at hstop
    split at hstop
    · cases hstop
    · exact h ⟨q, u, hstop⟩
  all_goals exact List.length_filter_le _ _

/-- The record in a slot is retired and its slot appended to the outcome list (R46 steps 2 to 4). -/
def State.stampRetired (s : State) (r : Nat) (out : BookOutcome) : State :=
  let t := s.updBook r (fun b => b.asRetired out s.clock)
  { t with table := { t.table with outcomes := t.table.outcomes ++ [r] } }

/-- A retirement in its steps. -/
theorem State.retire_eq {s : State} {r : Nat} {b : Book} {out : BookOutcome} (hb : s.book? r = some b)
    (hout : outcomeFrom out b.life = true) :
    s.retire r out =
      (((s.leaveCollections r).stampRetired r out).accountRetirement b out).endGaugingOf r := by
  rw [State.retire, hb]
  exact if_pos hout

/-- A retirement from a state that does not allow its outcome is ignored. -/
theorem State.retire_ignored {s : State} {r : Nat} {b : Book} {out : BookOutcome}
    (hb : s.book? r = some b) (hout : outcomeFrom out b.life = false) : s.retire r out = s := by
  simp [State.retire, hb, hout]

theorem live_of_outcomeFrom {out : BookOutcome} {l : Life} (h : outcomeFrom out l = true) :
    l ≠ .retired := by
  rintro rfl
  cases out <;> simp [outcomeFrom] at h

/-- The retired record joins the outcome list as it leaves the live. -/
theorem slots_stampRetired {s : State} {r : Nat} {b : Book} (out : BookOutcome)
    (hb : s.book? r = some b) (hlive : b.life ≠ .retired) (h : s.SlotsAccounted) :
    (s.stampRetired r out).SlotsAccounted := by
  have hbooks : (s.stampRetired r out).table.books =
      s.table.books.map (fun c => if c.slot == r then c.asRetired out s.clock else c) := rfl
  have houtcomes : (s.stampRetired r out).table.outcomes = s.table.outcomes ++ [r] := rfl
  have hslot (c : Book) : (if c.slot == r then c.asRetired out s.clock else c).slot = c.slot := by
    split <;> rfl
  have hnew : r ∉ s.table.outcomes := by
    rw [h.outcomes]
    rintro ⟨c, hc, hr, hretired⟩
    have hbc := h.book?_of_mem hc
    rw [hr, hb] at hbc
    obtain rfl := Option.some.inj hbc
    exact hlive hretired
  refine ⟨?_, ?_, ?_, fun q => ?_⟩
  · rw [hbooks, List.forall_mem_map]
    exact fun c hc => by rw [hslot]; exact h.range c hc
  · rw [hbooks, List.map_map]
    exact (List.map_congr_left fun c _ => hslot c) ▸ h.nodup
  · rw [houtcomes]
    exact h.outcomes_nodup.append (List.nodup_singleton r) (by simpa using hnew)
  · rw [houtcomes, hbooks, List.mem_append, List.mem_singleton, h.outcomes]
    constructor
    · rintro (⟨c, hc, hq, hretired⟩ | rfl)
      · refine ⟨_, List.mem_map_of_mem hc, by rw [hslot, hq], ?_⟩
        split <;> [rfl; exact hretired]
      · exact ⟨_, List.mem_map_of_mem (State.mem_of_book? hb), by
          rw [hslot, State.slot_of_book? hb], by simp [State.slot_of_book? hb, Book.asRetired]⟩
    · rintro ⟨d, hd, hq, hretired⟩
      obtain ⟨c, hc, rfl⟩ := List.mem_map.1 hd
      rw [hslot] at hq
      by_cases hr : q = r
      · exact .inr hr
      · exact .inl ⟨c, hc, hq, by simpa [hq, hr] using hretired⟩

theorem keeps_stampRetired {s : State} {r : Nat} {b : Book} (out : BookOutcome)
    (hb : s.book? r = some b) (hlive : b.life ≠ .retired) : Keeps s (s.stampRetired r out) where
  capacity h := { h with }
  reserved h := h
  slots := slots_stampRetired out hb hlive
  configured h := { h with }
  orders h := { h with }
  rests := id

theorem keeps_retire (s : State) (r : Nat) (out : BookOutcome) : Keeps s (s.retire r out) := by
  cases hb : s.book? r with
  | none => rw [State.retire, hb]; exact .refl s
  | some b =>
    cases hout : outcomeFrom out b.life with
    | false => rw [State.retire_ignored hb hout]; exact .refl s
    | true =>
      rw [State.retire_eq hb hout]
      have hstamp := keeps_stampRetired (s := s.leaveCollections r) out hb (live_of_outcomeFrom hout)
      exact (((keeps_leaveCollections s r).trans hstamp).trans (keeps_accountRetirement _ b out)).trans
        (keeps_endGaugingOf _ r)

/-! ### Identification and gauging -/

theorem Book.tag_judged (b : Book) (k : Template) (limit : Nat) : (b.judged k limit).tag = b.tag := by
  unfold Book.judged
  split
  · split <;> [rfl; split <;> [rfl; split <;> rfl]]
  · rfl

theorem keeps_runVerdict (s : State) (r : Nat) : Keeps s (s.runVerdict r) :=
  keeps_updBook s r _ fun b => by
    split
    · split <;> [exact b.tag_judged _ _; rfl]
    · rfl

/-- What an order counts of a record that binds to it (R28). -/
def Order.withBound (o : Order) (i : Ident) (now : Clock) : Order :=
  let k := { o.counters with
    admitted := countUp i.order 0 now o.counters.admitted
    inProcess := countUp i.order 1 now o.counters.inProcess }
  match o.tmpl.mode with
  | .copyExact => { o with counters := k }.setCopy i.copy .inProcess
  | .title => { o with counters := k }

theorem Order.key_withBound (o : Order) (i : Ident) (now : Clock) : (o.withBound i now).key = o.key := by
  unfold Order.withBound
  dsimp only
  split <;> rfl

/-- A record BOUND to an order, before any verdict (R28). -/
def State.bindBook (s : State) (r : Nat) (i : Ident) (o : Order) : State :=
  (s.updBook r (fun b => { b with binding := some .bound, tmpl := some o.tmpl })).updOrder i.order
    (fun o => o.withBound i s.clock)

/-- A binding, with the verdict where the record's gauging has completed. -/
theorem State.bind_eq (s : State) (r : Nat) (i : Ident) (o : Order) :
    s.bind r i o = (match (s.bindBook r i o).book? r with
      | some b => if b.gauged then (s.bindBook r i o).runVerdict r else s.bindBook r i o
      | none => s.bindBook r i o) := rfl

theorem keeps_bindBook (s : State) (r : Nat) (i : Ident) (o : Order) : Keeps s (s.bindBook r i o) :=
  (keeps_updOrder _ i.order _ fun o _ => o.key_withBound i _).after (keeps_updBook s r _ fun _ => rfl)

theorem keeps_bind (s : State) (r : Nat) (i : Ident) (o : Order) : Keeps s (s.bind r i o) := by
  have hbound := keeps_bindBook s r i o
  rw [State.bind_eq]
  split
  · split <;> [exact hbound.trans (keeps_runVerdict _ r); exact hbound]
  · exact hbound

theorem keeps_identifyAs (s : State) (r : Nat) (i : Ident) : Keeps s (s.identifyAs r i) := by
  unfold State.identifyAs
  split
  · split
    · split
      · exact keeps_unbind s r _
      · exact keeps_updBook s r _ fun _ => rfl
      · exact keeps_bind s r i _
    · exact .refl s
  · exact .refl s

theorem keeps_identifyWindow (s : State) (r : Nat) (w : ReadWindow) :
    Keeps s (s.identifyWindow r w) := by
  unfold State.identifyWindow
  dsimp only
  have hbad := keeps_updBook s r (fun b => { b with badRead := b.badRead || w.bad }) fun _ => rfl
  split
  · exact hbad.trans (keeps_unbind _ r _)
  · split
    · exact (keeps_identifyAs _ r _).after (hbad.trans (keeps_updBook _ r _ fun _ => rfl))
    · exact hbad.trans (keeps_unbind _ r _)

theorem keeps_finishGauging (s : State) (r : Nat) : Keeps s (s.finishGauging r) := by
  refine (keeps_setGauging _ none).after ((keeps_updBook _ r _ fun b => ?_).after
    ((keeps_runVerdict _ r).after (keeps_updBook s r _ fun b => ?_)))
  · split
    · next h => exact Book.tag_eq_iff.2 ⟨rfl, by simp [h]⟩
    · rfl
  · unfold Book.withThickness
    dsimp only
    split <;> rfl

theorem keeps_completionTest (s : State) : Keeps s s.completionTest := by
  unfold State.completionTest
  split
  · split
    · split <;> [exact keeps_finishGauging s _; exact .refl s]
    · exact .refl s
  · exact .refl s

theorem keeps_closeWindow (s : State) : Keeps s s.closeWindow := by
  unfold State.closeWindow
  split
  · split <;> [exact (keeps_identifyWindow _ _ _).after (keeps_setGauging s _); exact .refl s]
  · exact .refl s

theorem keeps_endLength (s : State) : Keeps s s.endLength := by
  unfold State.endLength
  split
  · split <;> [exact keeps_setGauging s _; exact .refl s]
  · exact .refl s

theorem keeps_settleSamples (s : State) : Keeps s s.settleSamples := by
  unfold State.settleSamples
  split
  · exact keeps_updBook s _ _ fun _ => rfl
  · exact .refl s

theorem keeps_forceCompletion (s : State) : Keeps s s.forceCompletion :=
  (((keeps_closeWindow s).trans (keeps_settleSamples _)).trans (keeps_endLength _)).trans
    (keeps_completionTest _)

theorem keeps_sampleTest (s : State) : Keeps s s.sampleTest := by
  unfold State.sampleTest
  split
  · split
    · split
      · exact (keeps_completionTest _).after (keeps_updBook s _ _ fun _ => rfl)
      · exact .refl s
    · exact .refl s
  · exact .refl s

theorem keeps_spanTest (s : State) : Keeps s s.spanTest := by
  unfold State.spanTest
  split
  · split
    · split
      · exact (keeps_completionTest _).after ((keeps_endLength s).trans (keeps_fault _ _ _))
      · exact .refl s
    · exact .refl s
  · exact .refl s

theorem keeps_windowTest (s : State) : Keeps s s.windowTest := by
  unfold State.windowTest
  split
  · split
    · split <;> [exact (keeps_closeWindow s).trans (keeps_completionTest _); exact .refl s]
    · exact .refl s
  · exact .refl s

theorem keeps_gaugeTests (s : State) (z : Belt) : Keeps s (s.gaugeTests z) := by
  cases z with
  | a => exact ((keeps_sampleTest s).trans (keeps_spanTest _)).trans (keeps_windowTest _)
  | b | c => exact .refl s

theorem keeps_gaugeTrailing (s : State) (c : Count) : Keeps s (s.gaugeTrailing c) := by
  unfold State.gaugeTrailing
  split
  · have hsettle := keeps_settleSamples s
    dsimp only
    split
    · split
      · exact (keeps_completionTest _).after ((keeps_setGauging _ _).after
          (hsettle.trans (keeps_updBook _ _ _ fun _ => rfl)))
      · exact (keeps_completionTest _).after (hsettle.trans (keeps_setGauging _ _))
    · exact hsettle.trans (keeps_completionTest _)
  · exact .refl s

/-! ### Watch points -/

/-- The order of a record has had its proof taken (R142). -/
def State.proofTaken (s : State) (b : Book) : Bool :=
  match b.order?.bind s.order? with
  | some o => o.proofTaken
  | none => false

/-- The order of a record whose proof it is takes note of it (R142). -/
def State.noteProof (s : State) (b : Book) (takes : Bool) : State :=
  if takes then
    match b.order? with
    | some n => s.updOrder n (fun o => { o with proofTaken := true })
    | none => s
  else s

/-- The lane and the proof marker set on a record (R142). -/
def State.putLane (s : State) (b : Book) : State :=
  s.updBook b.slot (fun x => { x with
    lane := some (laneOf b (s.proofTaken b)), proof := x.proof || takesProof b (s.proofTaken b) })

theorem State.setLane_eq {s : State} {b : Book} (h : b.lane = none) :
    s.setLane b =
      let t := (s.putLane b).noteProof b (takesProof b (s.proofTaken b))
      { t with dlv := { t.dlv with gate := laneOf b (s.proofTaken b) } } := by
  rw [State.setLane, h]
  rfl

theorem State.setLane_set {s : State} {b : Book} {l : Lane} (h : b.lane = some l) :
    s.setLane b = s := by
  rw [State.setLane, h]

theorem keeps_noteProof (s : State) (b : Book) (takes : Bool) : Keeps s (s.noteProof b takes) := by
  unfold State.noteProof
  split
  · split <;> [exact keeps_updOrder s _ _ fun _ _ => rfl; exact .refl s]
  · exact .refl s

theorem keeps_putLane (s : State) (b : Book) : Keeps s (s.putLane b) :=
  keeps_updBook s b.slot _ fun _ => rfl

theorem keeps_setLane (s : State) (b : Book) : Keeps s (s.setLane b) := by
  cases h : b.lane with
  | some l => rw [State.setLane_set h]; exact .refl s
  | none =>
    rw [State.setLane_eq h]
    refine Keeps.after ?_ ((keeps_putLane s b).trans (keeps_noteProof _ b (takesProof b (s.proofTaken b))))
    exact keeps_of_eq rfl rfl rfl rfl rfl rfl rfl rfl rfl rfl id

theorem keeps_openWindow (s : State) (w : Watch) (b : Book) : Keeps s (s.openWindow w b) := by
  have h := keeps_setOpened s w true
  unfold State.openWindow
  dsimp only
  split
  · split
    · split <;> [exact h.trans (keeps_forceCompletion _); exact h]
    · exact h
  · exact h.trans (keeps_setLane _ b)
  all_goals exact h

theorem keeps_loseHead (s : State) (w : Watch) (b : Book) : Keeps s (s.loseHead w b) := by
  unfold State.loseHead
  dsimp only
  refine (keeps_setOpened _ w false).after ((keeps_fault _ _ _).after ?_)
  have h := keeps_retire s b.slot .lost
  cases w
  case casing => exact h.trans (keeps_unreserve _)
  all_goals exact h

theorem keeps_testHead (fuel : Nat) (s : State) (w : Watch) : Keeps s (s.testHead fuel w) := by
  induction fuel generalizing s with
  | zero => exact .refl s
  | succ n ih =>
    unfold State.testHead
    split
    · exact .refl s
    · split
      · split <;> [exact .refl s; exact keeps_openWindow s w _]
      · split <;> [exact (keeps_loseHead s w _).trans (ih _); exact .refl s]

theorem keeps_newHead (s : State) (w : Watch) : Keeps s (s.newHead w) :=
  (keeps_setOpened s w false).trans (keeps_testHead _ _ w)

theorem keeps_retest (s : State) (w : Watch) : Keeps s (s.retest w) := keeps_testHead _ s w

theorem keeps_missingTest (s : State) (w : Watch) : Keeps s (s.missingTest w) := by
  unfold State.missingTest
  split
  · split <;> [exact (keeps_loseHead s w _).trans (keeps_testHead _ _ w); exact .refl s]
  · exact .refl s

theorem keeps_openTest (s : State) (w : Watch) : Keeps s (s.openTest w) := by
  unfold State.openTest
  split
  · split <;> [exact keeps_openWindow s w _; exact .refl s]
  · exact .refl s

/-! ### Counts -/

theorem keeps_backTravelTest (s : State) (z : Belt) : Keeps s (s.backTravelTest z) := by
  unfold State.backTravelTest
  dsimp only
  split <;> [exact (keeps_fault _ _ _).after (keeps_setBelt s z _ rfl); exact .refl s]

theorem keeps_foldl {α : Type} (f : State → α → State) (h : ∀ s a, Keeps s (f s a)) (s : State)
    (l : List α) : Keeps s (l.foldl f s) := by
  induction l generalizing s with
  | nil => exact .refl s
  | cons a l ih => exact (h s a).trans (ih _)

theorem keeps_upTests (s : State) (z : Belt) : Keeps s (s.upTests z) :=
  (keeps_foldl _ (fun _ w => (keeps_openTest _ w).trans (keeps_missingTest _ w)) _ _).after
    (keeps_gaugeTests s z)

theorem keeps_downTests (s : State) (z : Belt) : Keeps s (s.downTests z) :=
  (keeps_foldl _ (fun _ w => keeps_openTest _ w) _ _).after (keeps_backTravelTest s z)

theorem keeps_takePhases (s : State) (z : Belt) : Keeps s (s.takePhases z) := by
  unfold State.takePhases
  dsimp only
  split
  · exact (keeps_follow _).after ((keeps_upTests _ z).after (keeps_setBelt s z _ rfl))
  · exact (keeps_follow _).after ((keeps_fault _ _ _).after (keeps_setBelt s z _ rfl))
  · exact (keeps_follow _).after ((keeps_downTests _ z).after (keeps_setBelt s z _ rfl))
  · exact .refl s

/-! ### The moves of records -/

theorem State.life_of_head? {s : State} {w : Watch} {b : Book} (h : s.head? w = some b) :
    headState w b.life = true := by
  unfold State.head? at h
  split at h
  · next c _ =>
    split at h
    · next hc => cases h; exact hc
    · cases h
  · cases h

/-- The head of a watch point is the record read from its slot. -/
theorem State.book?_of_head? {s : State} {w : Watch} {b : Book} (h : s.head? w = some b) :
    s.book? b.slot = some b := by
  unfold State.head? at h
  split at h
  · next c hc =>
    obtain ⟨r, -, hr⟩ := Option.bind_eq_some_iff.1 hc
    split at h
    · cases h
      rwa [State.slot_of_book? hr]
    · cases h
  · cases h

theorem State.head?_of_target? {s : State} {w : Watch} {b : Book} {t : Count}
    (h : s.target? w = some (b, t)) : s.head? w = some b := by
  unfold State.target? at h
  split at h
  · next c hc =>
    cases hp : c.position with
    | none => simp [hp] at h
    | some p =>
      simp only [hp, Option.map_some, Option.some.injEq, Prod.mk.injEq] at h
      rw [hc, h.1]
  · cases h

theorem live_of_headState {w : Watch} {l : Life} (h : headState w l = true) : l ≠ .retired := by
  rintro rfl
  cases w <;> simp [headState] at h

/-- The head of a watch point moves to another state of the live. -/
theorem keeps_moveHead {s : State} {w : Watch} {b : Book} {l : Life} (h : s.head? w = some b)
    (hl : l ≠ .retired) :
    Keeps s (s.updBook b.slot (fun b => { b with life := l, position := none })) :=
  keeps_updBook_live _ (State.book?_of_head? h) (live_of_headState (State.life_of_head? h)) rfl hl

theorem keeps_arriveStaging {s : State} {b : Book} (hb : s.head? .stagingEntry = some b) :
    Keeps s (s.arriveStaging b) := by
  unfold State.arriveStaging
  split
  · next h =>
    refine (keeps_follow _).after ((keeps_newHead _ _).after
      (Keeps.trans (keeps_moveHead hb (l := .staged) (by decide)) ⟨fun w => ?_, id, fun w => ?_,
        fun w => ?_, fun w => ?_, id⟩))
    · exact { w with
        transit := (List.length_filter_le _ _).trans w.transit
        staging := by simp only [List.length_append]; exact h }
    all_goals exact { w with }
  · exact .refl s

theorem keeps_arriveCasing {s : State} {b : Book} (hb : s.head? .casing = some b) :
    Keeps s (s.arriveCasing b) :=
  (keeps_follow _).after ((keeps_casingCycleTest _).after ((keeps_setOpened _ _ _).after
    ((keeps_setCasing _ _).after (keeps_moveHead hb (l := .casing) (by decide)))))

theorem ceilQuot_pos_le {a b c : Nat} (h : a ≤ b) : a ≤ max a (min c b) ∧ max a (min c b) ≤ b := by
  omega

/-- The index period lies within its bounds once it is computed (R119). -/
theorem State.period_recomputed {s : State} (h : s.cfg.pMin ≤ s.cfg.pMax) :
    s.cfg.pMin ≤ s.recomputePeriod.press.period ∧ s.recomputePeriod.press.period ≤ s.cfg.pMax := by
  show s.cfg.pMin ≤ s.periodNow ∧ s.periodNow ≤ s.cfg.pMax
  unfold State.periodNow
  split
  · exact ⟨le_rfl, h⟩
  · exact ceilQuot_pos_le h

theorem pMin_le_pMax {c : Cfg} (h : cfgConstraints c = true) : c.pMin ≤ c.pMax := by
  simp only [cfgConstraints, Bool.and_eq_true] at h
  exact of_decide_eq_true h.2

/-- With a good configuration, the period is within its bounds after it is computed. -/
theorem State.configured_recomputed {s : State} (hr : cfgInRange (cfgValues s.cfg) = true)
    (hc : cfgConstraints s.cfg = true) : s.recomputePeriod.Configured :=
  ⟨hr, hc, State.period_recomputed (pMin_le_pMax hc)⟩

theorem keeps_recomputePeriod (s : State) : Keeps s s.recomputePeriod where
  capacity h := { h with }
  reserved h := h
  slots h := { h with }
  configured h := State.configured_recomputed h.ranges h.constraints
  orders h := { h with }
  rests := id

theorem keeps_arrivePress {s : State} {b : Book} (hb : s.head? .pressEntry = some b) :
    Keeps s (s.arrivePress b) := by
  unfold State.arrivePress
  split
  · next h =>
    refine (keeps_pressTest _).after ((keeps_follow _).after ((keeps_recomputePeriod _).after
      ((keeps_newHead _ _).after (Keeps.trans (keeps_moveHead hb (l := .pressQueued) (by decide))
        ⟨fun w => ?_, id, fun w => ?_, fun w => ?_, fun w => ?_, id⟩))))
    · exact { w with
        pressApproach := (List.length_filter_le _ _).trans w.pressApproach
        pressQueue := by simp only [List.length_append]; exact h }
    all_goals exact { w with }
  · exact .refl s

theorem keeps_arriveJacket {s : State} {b : Book} (hb : s.head? .jacket = some b) :
    Keeps s (s.arriveJacket b) := by
  unfold State.arriveJacket
  split
  · refine (keeps_follow _).after ((keeps_newHead _ _).after
      (Keeps.trans (keeps_moveHead hb (l := .atJacket) (by decide)) ⟨fun w => ?_, id, fun w => ?_,
        fun w => ?_, fun w => ?_,
        fun _ => stopRests_of_not nofun⟩))
    · exact { w with jacketApproach := (List.length_filter_le _ _).trans w.jacketApproach }
    all_goals exact { w with }
  all_goals exact .refl s

theorem keeps_arriveOutfeed (s : State) (b : Book) : Keeps s (s.arriveOutfeed b) := by
  unfold State.arriveOutfeed
  split
  · exact (keeps_follow _).after ((keeps_newHead _ _).after (keeps_retire s _ _))
  · exact .refl s

theorem keeps_arrive {s : State} {w : Watch} {b : Book} (h : s.head? w = some b) :
    Keeps s (s.arrive w b) := by
  cases w with
  | stagingEntry => exact keeps_arriveStaging h
  | casing => exact keeps_arriveCasing h
  | pressEntry => exact keeps_arrivePress h
  | jacket => exact keeps_arriveJacket h
  | outfeed => exact keeps_arriveOutfeed s b

theorem keeps_unexpected (s : State) (z : Belt) : Keeps s (s.unexpected z) := keeps_fault s _ _

theorem keeps_watchEdge (s : State) (w : Watch) : Keeps s (s.watchEdge w) := by
  unfold State.watchEdge
  refine (keeps_noteEdge s (watchEye w)).trans ?_
  dsimp only
  split
  · next h =>
    split <;> [exact keeps_arrive (State.head?_of_target? h); exact keeps_unexpected _ _]
  · exact keeps_unexpected _ _

theorem keeps_crowdTest (s : State) (c : Count) : Keeps s (s.crowdTest c) := by
  have hlead (t : State) : Keeps t { t with table := { t.table with lastLead := some c } } :=
    ⟨fun w => { w with }, id, fun w => { w with }, fun w => { w with }, fun w => { w with }, id⟩
  unfold State.crowdTest
  dsimp only
  split <;> refine (hlead _).after ?_
  · split <;> [exact keeps_fault s _ _; exact .refl s]
  · exact .refl s

/-- The slot found free lies in 1 to 96 and holds no record. -/
theorem State.free_of_lowestFreeSlot? {s : State} {r : Nat} (h : s.lowestFreeSlot? = some r) :
    (1 ≤ r ∧ r ≤ 96) ∧ ∀ b ∈ s.table.books, b.slot ≠ r := by
  obtain ⟨hfree, hmem⟩ := And.intro (List.find?_some h) (List.mem_of_find?_eq_some h)
  simp only [List.mem_map, List.mem_range] at hmem
  obtain ⟨n, hn, rfl⟩ := hmem
  exact ⟨by omega, by simpa using hfree⟩

theorem slots_createBook {s : State} {r : Nat} (c : Count) (hr : s.lowestFreeSlot? = some r)
    (h : s.SlotsAccounted) : (s.createBook r c).SlotsAccounted := by
  obtain ⟨hrange, hfree⟩ := State.free_of_lowestFreeSlot? hr
  have hbooks : (s.createBook r c).table.books =
    s.table.books ++ [newBook r s.table.nextSeq s.clock c] := rfl
  refine ⟨?_, ?_, h.outcomes_nodup, fun q => ?_⟩
  · rw [hbooks, List.forall_mem_append]
    exact ⟨h.range, by simpa [newBook] using hrange⟩
  · rw [hbooks, List.map_append]
    exact h.nodup.append (List.nodup_singleton _) (by simpa [newBook] using hfree)
  · rw [State.createBook_table_outcomes, h.outcomes, hbooks]
    simp [newBook, or_and_right, exists_or]

theorem keeps_createBook {s : State} {r : Nat} (c : Count) (hr : s.lowestFreeSlot? = some r)
    (hroom : s.table.transit.length < 8) : Keeps s (s.createBook r c) where
  capacity h := { h with
    transit := by simp only [State.createBook, List.length_append]; exact hroom }
  reserved h := h
  slots := slots_createBook c hr
  configured h := { h with }
  orders h := { h with }
  rests := id

theorem keeps_takeGauging (s : State) (slot seq : Nat) : Keeps s (s.takeGauging slot seq) :=
  (keeps_forceCompletion s).trans (keeps_setGauging _ _)

theorem keeps_gaugeLeading (s : State) : Keeps s s.gaugeLeading := by
  unfold State.gaugeLeading
  dsimp only
  have hcrowd := (keeps_noteEdge s .gauge).trans (keeps_crowdTest _ ((s.noteEdge .gauge).captureOf .gauge))
  split
  · next r hr =>
    split
    · next hroom =>
      have htaken (c : Count) (seq : Nat) :=
        hcrowd.trans ((keeps_createBook c hr hroom).trans (keeps_takeGauging _ r seq))
      split
      · exact (keeps_follow _).after ((htaken _ _).trans (keeps_newHead _ _))
      · exact (htaken _ _).trans (keeps_follow _)
    · exact hcrowd.trans (keeps_fault _ _ _)
  · exact hcrowd.trans (keeps_fault _ _ _)

/-- A record that is in a state can be read from its slot in that state. -/
theorem State.inState_iff (s : State) (r : Nat) (l : Life) :
    s.inState r l = true ↔ ∃ b, s.book? r = some b ∧ b.life = l := by
  unfold State.inState
  split
  · next b hb => simp [hb]
  · next hb => simp [hb]

/-- A record known to be in a state of the live moves to another. -/
theorem keeps_moveFrom {s : State} {r : Nat} {l : Life} (f : Book → Book) (h : s.inState r l = true)
    (hl : l ≠ .retired) (hslot : ∀ b, (f b).slot = b.slot) (hf : ∀ b, (f b).life ≠ .retired) :
    Keeps s (s.updBook r f) := by
  obtain ⟨b, hb, rfl⟩ := (s.inState_iff r l).1 h
  exact keeps_updBook_live f hb hl (hslot b) (hf b)

/-- The head of the staging queue leaves it. -/
theorem keeps_takeHead {s : State} {r : Nat} {rest : List Nat} (h : s.stg.queue = r :: rest)
    (c : CasingSide) (x : StagingSide) :
    Keeps s { s with stg := { s.stg with queue := rest, casing := c, side := x } } where
  capacity w := { w with
    staging := by have := w.staging; rw [h, List.length_cons] at this; show rest.length ≤ 4; omega }
  reserved w := w
  slots w := { w with }
  configured w := { w with }
  orders w := { w with }
  rests := id

theorem keeps_releaseEdge (s : State) : Keeps s s.releaseEdge := by
  unfold State.releaseEdge
  refine (keeps_noteEdge s .release).trans ?_
  dsimp only
  have hidle (t : State) : Keeps t (t.setSide (.idle .none)).follow :=
    (keeps_setSide t _).trans (keeps_follow _)
  split
  · split
    · next r rest hq _ =>
      split
      · next h =>
        refine (keeps_follow _).after ((keeps_newHead _ _).after ((keeps_takeHead (r := r) ?_ _ _).after
          (keeps_moveFrom _ h (by decide) ?_ ?_)))
        · exact hq
        · exact fun _ => rfl
        · exact fun _ => nofun
      · exact hidle _
    · exact hidle _
  all_goals exact keeps_unexpected _ _

theorem keeps_rejectEdge (s : State) : Keeps s s.rejectEdge := by
  unfold State.rejectEdge
  refine (keeps_noteEdge s .reject).trans ?_
  dsimp only
  split
  case h_1 =>
    refine (keeps_setSide _ (.idle .none)).trans ?_
    split <;> [exact (keeps_retire _ _ _).trans (keeps_follow _); exact keeps_follow _]
  all_goals exact keeps_unexpected _ _

theorem keeps_ite_newHead (c : Bool) (s : State) (w : Watch) :
    Keeps s (if c then s.newHead w else s) := by
  cases c with
  | true => exact keeps_newHead s w
  | false => exact .refl s

/-- A record joins the press approach list as the casing section empties. -/
theorem keeps_joinPressApproach {s : State} (r : Nat) (c : CasingSide)
    (h : s.table.pressApproach.length < 4) :
    Keeps s { s with
      table := { s.table with pressApproach := s.table.pressApproach ++ [r] }
      stg := { s.stg with casing := c } } where
  capacity w := { w with pressApproach := by simp only [List.length_append]; exact h }
  reserved w := w
  slots w := { w with }
  configured w := { w with }
  orders w := { w with }
  rests := id

theorem keeps_casingExitEdge (s : State) : Keeps s s.casingExitEdge := by
  unfold State.casingExitEdge
  refine (keeps_noteEdge s .casingExit).trans ?_
  dsimp only
  split
  case h_1 =>
    split
    · next h =>
      refine (keeps_follow _).after ((keeps_ite_newHead _ _ _).after ((keeps_joinPressApproach _ _ ?_).after
        (keeps_moveFrom _ h.2 (by decide) ?_ ?_)))
      · exact h.1
      · exact fun _ => rfl
      · exact fun _ => nofun
    · exact keeps_setCasing _ _
  all_goals exact keeps_unexpected _ _

/-- A record joins the delivery list as the jacket stop empties. -/
theorem keeps_joinDelivery {s : State} (r : Nat) (x : JacketStop) (h : s.table.delivery.length < 6)
    (hx : ∀ r u, x ≠ .releasing r u) :
    Keeps s { s with
      table := { s.table with delivery := s.table.delivery ++ [r] }
      dlv := { s.dlv with stop := x } } where
  capacity w := { w with delivery := by simp only [List.length_append]; exact h }
  reserved w := w
  slots w := { w with }
  configured w := { w with }
  orders w := { w with }
  rests _ := stopRests_of_not hx

theorem keeps_jacketExitEdge (s : State) : Keeps s s.jacketExitEdge := by
  unfold State.jacketExitEdge
  refine (keeps_noteEdge s .jacketExit).trans ?_
  dsimp only
  split
  case h_1 =>
    split
    · next h =>
      refine (keeps_follow _).after ((keeps_ite_newHead _ _ _).after (
        (keeps_joinDelivery _ .empty ?_ nofun).after (keeps_moveFrom _ h.2 (by decide) ?_ ?_)))
      · exact h.1
      · exact fun _ => rfl
      · exact fun _ => nofun
    · exact keeps_setStop _ _ nofun
  all_goals exact keeps_unexpected _ _

theorem keeps_awaited (s : State) (a : Option (Nat × Timer)) :
    Keeps s { s with press := { s.press with awaited := a } } :=
  keeps_of_eq rfl rfl rfl rfl rfl rfl rfl rfl rfl rfl id

theorem keeps_unloadEdge (s : State) : Keeps s s.unloadEdge := by
  unfold State.unloadEdge
  refine (keeps_noteEdge s .unload).trans ?_
  dsimp only
  split
  · have hmoved (c : Count) (r : Nat) (t : State) := (keeps_awaited _ none).after
      (keeps_updBook t r (fun b => if b.life = .toJacket then { b with position := some (.c, c) }
        else b) fun b => by split <;> rfl)
    refine (keeps_pressTest _).after ((keeps_follow _).after ?_)
    split
    · exact (hmoved _ _ _).trans (keeps_retest _ _)
    · exact hmoved _ _ _
  · exact keeps_unexpected _ _

theorem keeps_leadingEdge (s : State) (e : Eye) : Keeps s (s.leadingEdge e) := by
  cases e with
  | gauge => exact keeps_gaugeLeading s
  | release => exact keeps_releaseEdge s
  | reject => exact keeps_rejectEdge s
  | casingExit => exact keeps_casingExitEdge s
  | unload => exact keeps_unloadEdge s
  | jacketExit => exact keeps_jacketExitEdge s
  | stageEntry | casing | pressEntry | jacket | outfeed => exact keeps_watchEdge s _

theorem keeps_trailingEdge (s : State) (e : Eye) : Keeps s (s.trailingEdge e) := by
  cases e with
  | gauge => exact (keeps_gaugeTrailing s _).trans (keeps_follow _)
  | _ => exact .refl s

end Sys2Proof.Machine
end

section
/-! SUPPORT. `Keeps` for the handshakes, the guard and the points, the timers and the requests, and so for
every command and every step; the proofs of the statements about the capacities, the slots and the
tables. -/

namespace Sys2Proof.Machine

/-! ### Handshakes -/

theorem keeps_heldScans (s : State) (r : Readers) : Keeps s { s with readers := r } :=
  keeps_of_eq rfl rfl rfl rfl rfl rfl rfl rfl rfl rfl id

/-- A case joins the tail of its queue, not reserved. -/
theorem keeps_joinCases {s : State} (i : Identity) (h : s.stg.cases.length < 6) :
    Keeps s { s with stg := { s.stg with cases := s.stg.cases ++ [CaseEntry.mk i false] } } where
  capacity w := { w with cases := by simp only [List.length_append]; exact h }
  reserved w e he := by
    cases hc : s.stg.cases with
    | nil => simp [hc] at he
    | cons c cs =>
      simp only [hc, List.cons_append, List.tail_cons, List.mem_append, List.mem_singleton] at he
      rcases he with he | rfl
      · exact w e (by rw [hc]; exact he)
      · rfl
  slots w := { w with }
  configured w := { w with }
  orders w := { w with }
  rests := id

theorem keeps_onCaseFed (s : State) : Keeps s s.onCaseFed := by
  unfold State.onCaseFed
  refine (keeps_heldScans s { s.readers with heldCase := .empty }).trans ?_
  dsimp only
  split
  · refine (keeps_stagingDecide _).after (keeps_joinCases _ ?_)
    assumption
  · exact keeps_fault _ _ _

/-- A jacket joins the tail of its queue. -/
theorem keeps_joinJackets {s : State} (i : Identity) (h : s.dlv.jackets.length < 6) :
    Keeps s { s with dlv := { s.dlv with jackets := s.dlv.jackets ++ [i] } } where
  capacity w := { w with jackets := by simp only [List.length_append]; exact h }
  reserved w := w
  slots w := { w with }
  configured w := { w with }
  orders w := { w with }
  rests := id

theorem keeps_onJacketFed (s : State) : Keeps s s.onJacketFed := by
  unfold State.onJacketFed
  refine (keeps_heldScans s { s.readers with heldJacket := .empty }).trans ?_
  dsimp only
  split
  · refine (keeps_jacketDecide _).after (keeps_joinJackets _ ?_)
    assumption
  · exact keeps_fault _ _ _

theorem keeps_clearOverdue (s : State) : Keeps s s.clearOverdue :=
  keeps_of_eq rfl rfl rfl rfl rfl rfl rfl rfl rfl rfl id

theorem keeps_clearJacketOverdue (s : State) : Keeps s s.clearJacketOverdue :=
  keeps_of_eq rfl rfl rfl rfl rfl rfl rfl rfl rfl rfl id

theorem keeps_onCaseEjected (s : State) : Keeps s s.onCaseEjected := by
  have hremove := keeps_removeEjectedCase s
  unfold State.onCaseEjected
  split
  · exact ((hremove.trans (keeps_setSide _ _)).trans (keeps_stagingDecide _)).trans
      (keeps_drainTests _)
  · split
    · exact (hremove.trans (keeps_clearOverdue _)).trans (keeps_stagingDecide _)
    · exact .refl s

theorem keeps_onCasingDone (s : State) : Keeps s s.onCasingDone := by
  unfold State.onCasingDone
  split
  case h_1 =>
    exact (keeps_drainTests _).after ((keeps_casingReleaseTest _).after (keeps_setCasing s _))
  all_goals exact .refl s

theorem keeps_onCasingFault (s : State) : Keeps s s.onCasingFault := by
  unfold State.onCasingFault
  split
  case h_1 =>
    exact (keeps_drainTests _).after ((keeps_casingReleaseTest _).after
      ((keeps_setReason s _ _).trans (keeps_setCasing _ _)))
  all_goals exact .refl s

theorem keeps_onJacketEjected (s : State) : Keeps s s.onJacketEjected := by
  have hremove := keeps_removeEjectedJacket s
  unfold State.onJacketEjected
  split
  case h_1 =>
    exact ((hremove.trans (keeps_setStop _ (.waiting _ none) nofun)).trans (keeps_jacketDecide _)).trans
      (keeps_drainTests _)
  all_goals
    split
    · exact (hremove.trans (keeps_clearJacketOverdue _)).trans (keeps_jacketDecide _)
    · exact .refl s

theorem keeps_onJacketDone (s : State) : Keeps s s.onJacketDone := by
  unfold State.onJacketDone
  split
  case h_1 =>
    exact (keeps_jacketReleaseTest _).after ((keeps_setJacketResult s _ _).trans (keeps_setStop _ _ nofun))
  all_goals exact .refl s

theorem keeps_onJacketFault (s : State) : Keeps s s.onJacketFault := by
  unfold State.onJacketFault
  split
  case h_1 =>
    exact (keeps_jacketReleaseTest _).after ((keeps_setJacketResult s _ _).trans (keeps_setStop _ _ nofun))
  all_goals exact .refl s

/-! ### The index (R125) -/

theorem keeps_setPocket (s : State) (p : Nat) (v : Option Nat) : Keeps s (s.setPocket p v) := by
  refine keeps_of_shrinks ⟨le_rfl, le_rfl, le_rfl, le_rfl, ?_, rfl, le_rfl, le_rfl, le_rfl, le_rfl⟩
    (fun _ h => h) rfl rfl rfl rfl rfl id
  exact List.length_set

/-- A record joins the jacket approach list as the awaited unload. -/
theorem keeps_joinJacketApproach {s : State} (r : Nat) (a : Option (Nat × Timer))
    (h : s.table.jacketApproach.length < 6) :
    Keeps s { s with
      table := { s.table with jacketApproach := s.table.jacketApproach ++ [r] }
      press := { s.press with awaited := a } } where
  capacity w := { w with jacketApproach := by simp only [List.length_append]; exact h }
  reserved w := w
  slots w := { w with }
  configured w := { w with }
  orders w := { w with }
  rests := id

theorem keeps_applyUnload (s : State) (p r : Nat) : Keeps s (s.applyUnload p r) := by
  unfold State.applyUnload
  split
  · next b hb =>
    split
    · next h =>
      refine (keeps_joinJacketApproach _ _ ?_).after ((keeps_setPocket _ _ _).after
        (keeps_updBook_live _ hb ?_ rfl ?_))
      · exact h.2
      · rw [h.1]; decide
      · exact nofun
    · exact .refl s
  · exact .refl s

theorem keeps_leaveQueue (s : State) (r : Nat) :
    Keeps s { s with press := { s.press with queue := s.press.queue.filter (· != r) } } where
  capacity w := { w with pressQueue := (List.length_filter_le _ _).trans w.pressQueue }
  reserved w := w
  slots w := { w with }
  configured w := { w with }
  orders w := { w with }
  rests := id

theorem keeps_applyLoad (s : State) (p r : Nat) (at_ : Clock) : Keeps s (s.applyLoad p r at_) := by
  unfold State.applyLoad
  split
  · next b hb =>
    split
    · next h =>
      refine (keeps_leaveQueue _ _).after ((keeps_setPocket _ _ _).after
        (keeps_updBook_live _ hb ?_ rfl ?_))
      · rw [h]; decide
      · exact nofun
    · exact .refl s
  · exact .refl s

theorem keeps_applyRideOn (s : State) (op : IndexOp) (occupant : Option Nat) :
    Keeps s (s.applyRideOn op occupant) := by
  unfold State.applyRideOn
  split
  · exact keeps_updBook s _ _ fun _ => rfl
  · exact .refl s

/-- The ring turns by one pitch. -/
theorem keeps_turn (s : State) : Keeps s { s with press := { s.press with
    index := none, rotation := (s.press.rotation + 1) % 24 } } where
  capacity w := { w with rotation := Nat.mod_lt _ (by decide) }
  reserved w := w
  slots w := { w with }
  configured w := { w with }
  orders w := { w with }
  rests := id

theorem keeps_applyIndex (s : State) (op : IndexOp) : Keeps s (s.applyIndex op) := by
  unfold State.applyIndex
  refine (keeps_recomputePeriod _).after ((keeps_applyRideOn _ _ _).after ?_)
  refine (keeps_turn s).trans ?_
  dsimp only
  have hload (t : State) : Keeps t (match op.load with
      | some (p, r) => t.applyLoad p r op.timer.since
      | none => t) := by
    split <;> [exact keeps_applyLoad t _ _ _; exact .refl t]
  refine (hload _).after ?_
  split <;> [exact keeps_applyUnload _ _ _; exact .refl _]

theorem keeps_onIndexDone (s : State) : Keeps s s.onIndexDone := by
  unfold State.onIndexDone
  split
  · exact (keeps_pressTest _).after ((keeps_follow _).after ((keeps_ite_newHead _ _ _).after
      (keeps_applyIndex s _)))
  · exact .refl s

theorem keeps_onHandshake (s : State) (n : Nat) : Keeps s (s.onHandshake n) := by
  unfold State.onHandshake
  split
  · exact keeps_onCaseFed s
  · exact keeps_onCaseEjected s
  · exact keeps_onCasingDone s
  · exact keeps_onCasingFault s
  · exact keeps_onIndexDone s
  · exact keeps_onJacketFed s
  · exact keeps_onJacketEjected s
  · exact keeps_onJacketDone s
  · exact keeps_onJacketFault s
  · exact .refl s

/-! ### The guard and the points -/

theorem keeps_tripPress (s : State) : Keeps s s.tripPress :=
  keeps_of_eq rfl rfl rfl rfl rfl rfl rfl rfl rfl rfl id

theorem keeps_tripStagingSide (s : State) : Keeps s s.tripStagingSide := by
  unfold State.tripStagingSide
  split
  · exact (keeps_unreserve s).trans (keeps_setSide _ _)
  · exact keeps_setSide s _
  · exact (keeps_removeEjectedCase s).trans (keeps_setSide _ _)
  · exact keeps_setSide s _

theorem keeps_tripCasing (s : State) : Keeps s s.tripCasing := by
  unfold State.tripCasing
  split
  · exact (keeps_setReason s _ _).trans (keeps_setCasing _ _)
  · exact keeps_setCasing s _
  all_goals exact .refl s

theorem keeps_tripDelivery (s : State) : Keeps s s.tripDelivery := by
  unfold State.tripDelivery
  split
  · exact (keeps_removeEjectedJacket s).trans (keeps_setStop _ _ nofun)
  · exact ((keeps_setReason s _ _).trans (keeps_setJacketResult _ _ _)).trans (keeps_setStop _ _ nofun)
  · exact keeps_setStop s _ nofun
  · exact keeps_setStop s _ nofun
  all_goals exact .refl s

theorem keeps_io (s : State) (io : PointUnit) : Keeps s { s with io := io } :=
  keeps_of_eq rfl rfl rfl rfl rfl rfl rfl rfl rfl rfl id

/-- A trip before the units end their operations: the outputs disarmed and every zone TRIPPED (R156). -/
def State.allTripped (s : State) : State :=
  ((((({ s with io := { s.io with armed := false } } : State).setZone .a .tripped).setZone .b
    .tripped).setZone .p .tripped).setZone .c .tripped)

theorem State.trip_eq (s : State) :
    s.trip = s.allTripped.tripStagingSide.tripCasing.tripPress.tripDelivery.bpTests := rfl

theorem keeps_allTripped (s : State) : Keeps s s.allTripped :=
  (keeps_setZone _ _ _).after ((keeps_setZone _ _ _).after ((keeps_setZone _ _ _).after
    ((keeps_setZone _ _ _).after (keeps_io s _))))

theorem keeps_trip (s : State) : Keeps s s.trip := by
  rw [State.trip_eq]
  exact (keeps_bpTests _).after ((keeps_tripDelivery _).after ((keeps_tripPress _).after
    ((keeps_tripCasing _).after ((keeps_tripStagingSide _).after (keeps_allTripped s)))))

/-- The guard as point 27 reads, before any trip (R156). -/
def State.takeGuard (s : State) : State := { s with io := { s.io with guardClosed := s.reads 27 } }

theorem State.refreshGuard_eq (s : State) :
    s.refreshGuard = if s.io.guardClosed && !s.reads 27 then s.takeGuard.trip else s.takeGuard := rfl

theorem keeps_refreshGuard (s : State) : Keeps s s.refreshGuard := by
  rw [State.refreshGuard_eq]
  split
  · exact (keeps_trip _).after (keeps_io s _)
  · exact keeps_io s _

theorem keeps_readingChanged (s : State) (n : Nat) (before : Bool) :
    Keeps s (s.readingChanged n before) := by
  unfold State.readingChanged
  dsimp only
  split
  · exact .refl s
  · split
    · exact keeps_takePhases s _
    · split <;> [exact keeps_leadingEdge s _; exact keeps_trailingEdge s _]
    · split
      · exact keeps_refreshGuard s
      · split <;> [exact keeps_onHandshake s n; exact .refl s]

theorem keeps_setLevel (s : State) (n : Nat) (high : Bool) : Keeps s (s.setLevel n high) :=
  keeps_setPoint s n _

theorem keeps_risingInput (s : State) (n : Nat) {edge : State → State} (h : ∀ t, Keeps t (edge t)) :
    Keeps s (s.risingInput n edge) := by
  unfold State.risingInput
  dsimp only
  split <;> [exact (keeps_setLevel s n _).trans (h _); exact keeps_setLevel s n _]

theorem keeps_fallingInput (s : State) (n : Nat) {edge : State → State} (h : ∀ t, Keeps t (edge t)) :
    Keeps s (s.fallingInput n edge) := by
  unfold State.fallingInput
  dsimp only
  split <;> [exact (keeps_setLevel s n _).trans (h _); exact keeps_setLevel s n _]

/-! ### Timers -/

theorem keeps_link (s : State) (l : Link) : Keeps s { s with link := l } :=
  keeps_of_eq rfl rfl rfl rfl rfl rfl rfl rfl rfl rfl id

theorem keeps_blockScan (s : State) (o : ScanOutcome) : Keeps s (s.blockScan o) := by
  unfold State.blockScan
  split
  · split
    case h_4 => exact .refl s
    all_goals exact keeps_setGauging s _
  · exact .refl s

theorem keeps_deliverScan (s : State) (p : Port) (o : ScanOutcome) : Keeps s (s.deliverScan p o) := by
  cases p with
  | blockPort => exact keeps_blockScan s o
  | casePort | jacketPort => exact keeps_heldScans s _

theorem keeps_discardText (s : State) (p : Port) : Keeps s (s.discardText p) :=
  (keeps_setText s p _).trans (keeps_deliverScan _ p _)

theorem keeps_onStagingReleaseTimeout (s : State) : Keeps s s.onStagingReleaseTimeout := by
  unfold State.onStagingReleaseTimeout
  refine (keeps_drainTests _).after ((keeps_fault _ _ _).after ((keeps_setSide _ _).after ?_))
  split <;> [exact keeps_unreserve s; exact .refl s; exact .refl s; exact .refl s]

theorem keeps_onCasingReleaseTimeout (s : State) : Keeps s s.onCasingReleaseTimeout := by
  unfold State.onCasingReleaseTimeout
  split
  case h_1 => exact (keeps_setCasing s _).trans (keeps_fault _ _ _)
  all_goals exact .refl s

theorem keeps_onCaseEjectTimeout (s : State) : Keeps s s.onCaseEjectTimeout :=
  (keeps_fault _ _ _).after (keeps_of_eq rfl rfl rfl rfl rfl rfl rfl rfl rfl rfl id)

theorem keeps_onCasingTimeout (s : State) : Keeps s s.onCasingTimeout := by
  unfold State.onCasingTimeout
  split
  case h_1 =>
    exact ((keeps_setReason s _ _).trans (keeps_setCasing _ _)).trans (keeps_fault _ _ _)
  all_goals exact .refl s

theorem keeps_onEarlyHoldExpiry (s : State) : Keeps s s.onEarlyHoldExpiry := by
  unfold State.onEarlyHoldExpiry
  refine (keeps_setSide s (.idle .none)).trans ?_
  dsimp only
  split <;> [exact (keeps_unbind _ _ _).trans (keeps_stagingDecide _); exact .refl _]

theorem keeps_onCaseWaitExpiry (s : State) : Keeps s s.onCaseWaitExpiry := by
  unfold State.onCaseWaitExpiry
  refine (keeps_setSide s (.idle .none)).trans ?_
  dsimp only
  split <;> [exact (keeps_setReason _ _ _).trans (keeps_stagingDecide _); exact .refl _]

theorem keeps_onIndexTimeout (s : State) : Keeps s s.onIndexTimeout :=
  (((keeps_tripPress s).trans (keeps_fault _ _ _)).trans (keeps_drainTests _)).trans
    (keeps_pressTest _)

theorem keeps_onUnloadGraceExpiry (s : State) : Keeps s s.onUnloadGraceExpiry := by
  unfold State.onUnloadGraceExpiry
  split
  · exact (keeps_pressTest _).after ((keeps_follow _).after ((keeps_ite_newHead _ _ _).after
      ((keeps_awaited _ none).after ((keeps_retire s _ _).trans (keeps_fault _ _ _)))))
  · exact .refl s

theorem keeps_onJacketEjectTimeout (s : State) : Keeps s s.onJacketEjectTimeout := by
  unfold State.onJacketEjectTimeout
  split
  case h_1 =>
    exact (keeps_fault _ _ _).after (keeps_of_eq rfl rfl rfl rfl rfl rfl rfl rfl rfl rfl
      fun _ => stopRests_of_not nofun)
  all_goals exact .refl s

theorem keeps_onJacketCycleTimeout (s : State) : Keeps s s.onJacketCycleTimeout := by
  unfold State.onJacketCycleTimeout
  split
  case h_1 =>
    exact ((keeps_setJacketResult s _ _).trans (keeps_fault _ _ _)).trans (keeps_setStop _ _ nofun)
  all_goals exact .refl s

theorem keeps_onJacketReleaseTimeout (s : State) : Keeps s s.onJacketReleaseTimeout := by
  unfold State.onJacketReleaseTimeout
  split
  case h_1 => exact ((keeps_fault s _ _).trans (keeps_setStop _ (.done _) nofun)).trans (keeps_bpTest _ _)
  all_goals exact .refl s

theorem keeps_onJacketWaitExpiry (s : State) : Keeps s s.onJacketWaitExpiry := by
  unfold State.onJacketWaitExpiry
  split
  case h_1 =>
    exact ((keeps_setJacketResult s _ _).trans (keeps_setStop _ (.done _) nofun)).trans
      (keeps_jacketReleaseTest _)
  all_goals exact .refl s

theorem keeps_onSpeedPeriod (s : State) : Keeps s s.onSpeedPeriod :=
  keeps_of_eq rfl rfl rfl rfl rfl rfl rfl rfl rfl rfl id

theorem keeps_timedEffects : ∀ p ∈ timedEffects, ∀ s, Keeps s (p.2 s) := by
  simp only [timedEffects, List.forall_mem_cons]
  exact ⟨fun s => keeps_link s _, fun s => keeps_discardText s _, fun s => keeps_discardText s _,
    fun s => keeps_discardText s _, keeps_onSpeedPeriod, keeps_onStagingReleaseTimeout,
    keeps_onCaseEjectTimeout, keeps_onEarlyHoldExpiry, keeps_onCaseWaitExpiry, keeps_onCasingTimeout,
    keeps_onCasingReleaseTimeout, keeps_onIndexTimeout, keeps_onUnloadGraceExpiry,
    keeps_onJacketEjectTimeout, keeps_onJacketCycleTimeout, keeps_onJacketReleaseTimeout,
    keeps_onJacketWaitExpiry, by simp⟩

theorem keeps_expire (s : State) (o : Option Timer) {f : State → State} (h : ∀ t, Keeps t (f t)) :
    Keeps s (s.expire o f) := by
  unfold State.expire
  split <;> [exact (keeps_reach s _).trans (h _); exact .refl s]

theorem keeps_expireIfDue (s : State) (o : Option Timer) {f : State → State}
    (h : ∀ t, Keeps t (f t)) : Keeps s (s.expireIfDue o f) := by
  unfold State.expireIfDue
  split
  · split <;> [exact h s; exact .refl s]
  · exact .refl s

theorem keeps_expiries (l : List ((State → Option Timer) × (State → State)))
    (h : ∀ p ∈ l, ∀ s, Keeps s (p.2 s)) (s : State) : Keeps s (State.expiries l s) := by
  induction l generalizing s with
  | nil => exact .refl s
  | cons p l ih =>
    exact (keeps_expireIfDue s (p.1 s) (h p (by simp))).trans (ih (fun q hq => h q (by simp [hq])) _)

theorem keeps_tick (s : State) : Keeps s s.tick := by
  rw [State.tick_eq]
  exact (keeps_pressTest _).after ((keeps_expiries _ keeps_timedEffects _).after
    (keeps_of_eq rfl rfl rfl rfl rfl rfl rfl rfl rfl rfl id))

end Sys2Proof.Machine
end

section
/-! SUPPORT. `Keeps` for the requests, and so for every command and every step; the proofs of the
statements about the capacities, the slots and the tables. -/

namespace Sys2Proof.Machine

/-! ### Requests that only answer -/

theorem fst_noBody (h : State → State × Reply) (body : List Byte) (s : State) :
    (noBody h body s).1 = if body.isEmpty then (h s).1 else s := by
  unfold noBody
  split <;> rfl

@[simp] theorem fst_onStatus (body : List Byte) (s : State) : (onStatus body s).1 = s := by
  rw [onStatus, fst_noBody, ite_self]

@[simp] theorem fst_onReadConfig (body : List Byte) (s : State) : (onReadConfig body s).1 = s := by
  rw [onReadConfig, fst_noBody, ite_self]

@[simp] theorem fst_onListOutcomes (body : List Byte) (s : State) :
    (onListOutcomes body s).1 = s := by
  rw [onListOutcomes, fst_noBody, ite_self]

@[simp] theorem fst_onUnknown (body : List Byte) (s : State) : (onUnknown body s).1 = s := rfl

@[simp] theorem fst_onReadPoints (body : List Byte) (s : State) : (onReadPoints body s).1 = s := by
  unfold onReadPoints
  split
  · split <;> rfl
  · rfl

@[simp] theorem fst_onReadBook (body : List Byte) (s : State) : (onReadBook body s).1 = s := by
  unfold onReadBook
  split
  · split
    · split <;> rfl
    · rfl
  · rfl

@[simp] theorem fst_answerFind (s : State) (found : List Book) : (s.answerFind found).1 = s := by
  unfold State.answerFind
  split <;> rfl

@[simp] theorem fst_findByIdentifier (s : State) (key : List Byte) (bound : Nat) :
    (s.findByIdentifier key bound).1 = s := by
  unfold State.findByIdentifier
  split
  · exact fst_answerFind s _
  all_goals rfl

@[simp] theorem fst_findByCopy (s : State) (order copy bound : Nat) :
    (s.findByCopy order copy bound).1 = s := by
  unfold State.findByCopy
  split
  · exact fst_answerFind s _
  · rfl

@[simp] theorem fst_onFindBook (body : List Byte) (s : State) : (onFindBook body s).1 = s := by
  unfold onFindBook
  split
  · rfl
  · split
    · split <;> simp [State.refused]
    · split
      · split <;> simp [State.refused]
      · split <;> rfl

@[simp] theorem fst_onReadCopyMap (body : List Byte) (s : State) : (onReadCopyMap body s).1 = s := by
  unfold onReadCopyMap
  split
  · split
    · rfl
    · split <;> rfl
  · rfl

/-! ### Requests of the Book Table and the Order Table -/

/-- A request answered for a zone, or refused with the state as it stands. -/
theorem keeps_oneZone {h : Zone → State → State × Reply} {s : State}
    (hz : ∀ z, Keeps s (h z s).1) (body : List Byte) : Keeps s (oneZone h body s).1 := by
  unfold oneZone
  split
  · split <;> [exact hz _; exact .refl s]
  · exact .refl s

theorem keeps_noBody {h : State → State × Reply} {s : State} (hs : Keeps s (h s).1)
    (body : List Byte) : Keeps s (noBody h body s).1 := by
  rw [fst_noBody]
  split <;> [exact hs; exact .refl s]

theorem mem_tags_filter {l : List Book} {r q : Nat} {x : Bool} :
    (q, x) ∈ (l.filter (fun b => b.slot != r)).map Book.tag ↔ (q, x) ∈ l.map Book.tag ∧ q ≠ r := by
  simp only [List.mem_map, List.mem_filter, bne_iff_ne, Book.tag, Prod.mk.injEq]
  constructor
  · rintro ⟨b, ⟨hb, hr⟩, rfl, hx⟩
    exact ⟨⟨b, hb, rfl, hx⟩, hr⟩
  · rintro ⟨⟨b, hb, rfl, hx⟩, hr⟩
    exact ⟨b, ⟨hb, hr⟩, rfl, hx⟩

theorem slots_collect {s : State} (r : Nat) (h : s.SlotsAccounted) : (s.collect r).SlotsAccounted := by
  refine ⟨fun b hb => h.range b (List.mem_filter.1 hb).1,
    (List.filter_sublist.map _).nodup h.nodup, h.outcomes_nodup.filter _, fun q => ?_⟩
  have hout : q ∈ (s.collect r).table.outcomes ↔ q ∈ s.table.outcomes ∧ q ≠ r := by
    show q ∈ s.table.outcomes.filter (· != r) ↔ _
    rw [List.mem_filter, bne_iff_ne]
  rw [hout, h.outcomes, ← mem_tags_retired, ← mem_tags_retired]
  exact mem_tags_filter.symm

theorem keeps_collect (s : State) (r : Nat) : Keeps s (s.collect r) where
  capacity w := { w with }
  reserved w := w
  slots := slots_collect r
  configured w := { w with }
  orders w := { w with }
  rests := id

theorem keeps_onCollect (body : List Byte) (s : State) : Keeps s (onCollect body s).1 := by
  unfold onCollect
  split
  · split
    · split
      · exact .refl s
      · split
        · exact .refl s
        · split <;> [exact .refl s; exact keeps_collect s _]
    · exact .refl s
  · exact .refl s

theorem keeps_onMarkReject (body : List Byte) (s : State) : Keeps s (onMarkReject body s).1 := by
  unfold onMarkReject
  split
  · split
    · split
      · exact .refl s
      · split
        · exact .refl s
        · split
          · exact .refl s
          · split
            · exact .refl s
            · exact (keeps_setReason s _ _).trans (keeps_announce _)
    · exact .refl s
  · exact .refl s

theorem State.free_of_lowestFreeEntry? {s : State} {n : Nat} (h : s.lowestFreeEntry? = some n) :
    (1 ≤ n ∧ n ≤ 24) ∧ ∀ o ∈ s.orders, o.slot ≠ n := by
  obtain ⟨hfree, hmem⟩ := And.intro (List.find?_some h) (List.mem_of_find?_eq_some h)
  simp only [List.mem_map, List.mem_range] at hmem
  obtain ⟨k, hk, rfl⟩ := hmem
  exact ⟨by omega, by simpa using hfree⟩

theorem State.order?_eq_none_iff (s : State) (n : Nat) :
    s.order? n = none ↔ ∀ o ∈ s.orders, o.tmpl.order ≠ n := by
  simp [State.order?, List.find?_eq_none]

/-- A new entry in a free entry slot, of a number that is not in the table. -/
theorem keeps_addOrder {s : State} {slot : Nat} (t : Template) (copies : Nat)
    (hslot : s.lowestFreeEntry? = some slot) (hnew : s.order? t.order = none) :
    Keeps s { s with orders := s.orders ++ [newOrder slot t copies] } where
  capacity w := { w with }
  reserved w := w
  slots w := { w with }
  configured w := { w with }
  orders w := by
    obtain ⟨hrange, hfree⟩ := State.free_of_lowestFreeEntry? hslot
    refine ⟨?_, ?_, ?_⟩
    · rw [List.forall_mem_append]
      exact ⟨w.range, by simpa [newOrder] using hrange⟩
    · rw [List.map_append]
      exact w.slots.append (List.nodup_singleton _) (by simpa [newOrder] using hfree)
    · rw [List.map_append]
      exact w.numbers.append (List.nodup_singleton _)
        (by simpa [newOrder] using (s.order?_eq_none_iff _).1 hnew)
  rests := id

theorem keeps_identifyAll (s : State) (rs : List (Nat × Ident)) : Keeps s (s.identifyAll rs) :=
  keeps_foldl (α := Nat × Ident) _ (fun t r => keeps_identifyAs t r.1 r.2) s rs

theorem keeps_onLoadOrder (body : List Byte) (s : State) : Keeps s (onLoadOrder body s).1 := by
  unfold onLoadOrder
  split
  · exact .refl s
  · split
    · exact .refl s
    · next t copies _ =>
      split
      · exact .refl s
      · exact .refl s
      · next slot hnew hslot =>
        exact ((keeps_addOrder t copies hslot hnew).trans (keeps_identifyAll _ _)).trans
          (keeps_announce _)

theorem key_amend {o : Order} {t : Template} (copies : Nat) (h : t.order = o.tmpl.order) :
    (o.amend t copies).key = o.key := by
  simp [Order.amend, Order.key, h]

theorem order_of_amended {o : Order} {vs : List Nat} {t : Template} {copies : Nat}
    (h : amended o vs = some (t, copies)) : t.order = o.tmpl.order := by
  unfold amended at h
  split at h
  · split at h
    · split at h
      · cases h; rfl
      · cases h
    · cases h
  · cases h

theorem keeps_onAmendOrder (body : List Byte) (s : State) : Keeps s (onAmendOrder body s).1 := by
  unfold onAmendOrder
  split
  · exact .refl s
  · split
    · exact .refl s
    · next o _ =>
      split
      · exact .refl s
      · next t copies ht =>
        refine (keeps_announce _).after (keeps_updOrder s _ _ fun p hp => ?_)
        exact key_amend copies ((order_of_amended ht).trans hp.symm)

theorem keeps_onHoldOrder (body : List Byte) (s : State) : Keeps s (onHoldOrder body s).1 := by
  unfold onHoldOrder
  split
  · split
    · exact .refl s
    · split
      · exact (keeps_stagingDecide _).after (keeps_updOrder s _ _ fun _ _ => rfl)
      · exact .refl s
  · exact .refl s

theorem keeps_onResumeOrder (body : List Byte) (s : State) : Keeps s (onResumeOrder body s).1 := by
  unfold onResumeOrder
  split
  · split
    · exact .refl s
    · split
      · exact (keeps_stagingDecide _).after (keeps_updOrder s _ _ fun _ _ => rfl)
      · exact .refl s
  · exact .refl s

theorem keeps_dropOrder (s : State) (n : Nat) : Keeps s (s.dropOrder n) where
  capacity w := { w with }
  reserved w := w
  slots w := { w with }
  configured w := { w with }
  orders w := ⟨fun o ho => w.range o (List.mem_filter.1 ho).1,
    (List.filter_sublist.map _).nodup w.slots, (List.filter_sublist.map _).nodup w.numbers⟩
  rests := id

theorem keeps_onCloseOrder (body : List Byte) (s : State) : Keeps s (onCloseOrder body s).1 := by
  unfold onCloseOrder
  split
  · split
    · exact .refl s
    · split
      · exact .refl s
      · exact (keeps_dropOrder s _).trans (keeps_announce _)
  · exact .refl s

theorem keeps_onReadOrder (body : List Byte) (s : State) : Keeps s (onReadOrder body s).1 := by
  unfold onReadOrder
  split
  · split
    · exact .refl s
    · split
      · split <;> exact .refl s
      · split <;> [exact .refl s; exact keeps_updOrder s _ _ fun _ _ => rfl]
  · exact .refl s

theorem keeps_admitSet (s : State) (a : BitVec 512) : Keeps s { s with admitSet := a } :=
  keeps_of_eq rfl rfl rfl rfl rfl rfl rfl rfl rfl rfl id

theorem keeps_onAdmitAdd (body : List Byte) (s : State) : Keeps s (onAdmitAdd body s).1 := by
  unfold onAdmitAdd
  split
  · exact .refl s
  · split
    · exact .refl s
    · split <;> [exact keeps_admitSet s _; exact .refl s]

/-! ### Requests of the zones, the points and the system -/

theorem keeps_enterRunning (s : State) (z : Zone) : Keeps s (s.enterRunning z) := by
  have hdlv (t : State) (x : Bool) :
      Keeps t { t with dlv := { t.dlv with overdue := x, stop := t.dlv.stop.stopTimer } } :=
    keeps_of_eq rfl rfl rfl rfl rfl rfl rfl rfl rfl rfl fun h ⟨r, u, hstop⟩ =>
      h ⟨r, u, JacketStop.releasing_of_stopTimer hstop⟩
  have hrun := keeps_setZone s z .running
  cases z with
  | a => exact hrun.trans (keeps_markHere _ _)
  | b =>
    exact (keeps_stagingDecide _).after ((keeps_casingReleaseTest _).after
      ((keeps_casingCycleTest _).after ((keeps_clearOverdue _).after
        (hrun.trans (keeps_markHere _ _)))))
  | p => exact hrun.trans (keeps_pressTest _)
  | c =>
    exact (keeps_jacketReleaseTest _).after ((keeps_jacketDecide _).after ((hdlv _ _).after
      (hrun.trans (keeps_markHere _ _))))

theorem keeps_onZoneRun (body : List Byte) (s : State) : Keeps s (onZoneRun body s).1 := by
  refine keeps_oneZone (fun z => ?_) body
  have htry : Keeps s (s.tryRun z).1 := by
    unfold State.tryRun
    split
    · exact .refl s
    · split <;> [exact .refl s; exact keeps_enterRunning s z]
  split
  case h_1 | h_2 => exact htry
  all_goals exact .refl s

theorem keeps_enterDraining (s : State) (z : Zone) : Keeps s (s.enterDraining z) := by
  have hdrain := (keeps_setZone s z .draining).trans (keeps_drainTest _ z)
  cases z with
  | a | b => exact hdrain
  | p => exact hdrain.trans (keeps_pressTest _)
  | c => exact (keeps_jacketReleaseTest _).after (hdrain.trans (keeps_jacketDecide _))

theorem keeps_onZoneStop (body : List Byte) (s : State) : Keeps s (onZoneStop body s).1 := by
  refine keeps_oneZone (fun z => ?_) body
  split
  case h_1 => exact keeps_enterDraining s z
  all_goals exact .refl s

theorem keeps_onZoneHalt (body : List Byte) (s : State) : Keeps s (onZoneHalt body s).1 := by
  refine keeps_oneZone (fun z => ?_) body
  split
  case h_1 | h_2 => exact keeps_setZone s z _
  all_goals exact .refl s

theorem keeps_removeAll (s : State) (rs : List Nat) : Keeps s (s.removeAll rs) :=
  keeps_foldl _ (fun s r => keeps_retire s r .removed) s rs

theorem keeps_emptyZone (s : State) (z : Zone) : Keeps s (s.emptyZone z) := by
  cases z with
  | a => exact keeps_of_eq rfl rfl rfl rfl rfl rfl rfl rfl rfl rfl id
  | p => exact .refl s
  | b =>
    exact ⟨fun w => { w with cases := by simp [State.emptyZone] },
      fun _ => by simp [State.ReservedIsHead, State.emptyZone], fun w => { w with },
      fun w => { w with }, fun w => { w with }, id⟩
  | c =>
    exact ⟨fun w => { w with jackets := by simp [State.emptyZone] }, id, fun w => { w with },
      fun w => { w with }, fun w => { w with }, fun _ => stopRests_of_not nofun⟩

theorem keeps_closeWatches (s : State) (z : Zone) : Keeps s (s.closeWatches z) := by
  cases z with
  | a => exact keeps_setOpened s _ _
  | p => exact .refl s
  | b | c => exact (keeps_setOpened s _ _).trans (keeps_setOpened _ _ _)

theorem keeps_purge (s : State) (z : Zone) : Keeps s (s.purge z) := by
  unfold State.purge
  exact (((keeps_removeAll s _).trans (keeps_emptyZone _ z)).trans (keeps_closeWatches _ z)).trans
    (keeps_follow _)

theorem keeps_onPurge (body : List Byte) (s : State) : Keeps s (onPurge body s).1 := by
  refine keeps_oneZone (fun z => ?_) body
  split
  · dsimp only
    exact keeps_purge s z
  · exact .refl s

theorem keeps_zones (s : State) (zs : Zones) : Keeps s { s with zones := zs } :=
  keeps_of_eq rfl rfl rfl rfl rfl rfl rfl rfl rfl rfl id

theorem keeps_clearZone (s : State) (z : Zone) : Keeps s (s.clearZone z) := by
  unfold State.clearZone
  split <;> [exact keeps_zones s _; exact .refl s]

theorem keeps_onClearFaults (body : List Byte) (s : State) : Keeps s (onClearFaults body s).1 := by
  unfold onClearFaults
  split
  · exact .refl s
  · split
    · exact .refl s
    · split
      · exact keeps_foldl _ keeps_clearZone s _
      · exact .refl s

theorem keeps_rearm (s : State) : Keeps s s.rearm :=
  (keeps_pressTest _).after ((keeps_jacketReleaseTest _).after ((keeps_jacketDecide _).after
    (keeps_of_eq rfl rfl rfl rfl rfl rfl rfl rfl rfl rfl id)))

theorem keeps_onRearmOutputs (body : List Byte) (s : State) : Keeps s (onRearmOutputs body s).1 := by
  refine keeps_noBody ?_ body
  split
  · exact .refl s
  · split <;> [exact .refl s; exact keeps_rearm s]

theorem keeps_onSetPoint (body : List Byte) (s : State) : Keeps s (onSetPoint body s).1 := by
  unfold onSetPoint
  split
  · split
    · split
      · exact .refl s
      · exact (keeps_setPoint s _ _).trans (keeps_readingChanged _ _ _)
    · exact .refl s
  · exact .refl s

theorem length_of_splitFields (ws : List Nat) (bs : List Byte) (vs : List Nat)
    (h : splitFields ws bs = some vs) : vs.length = ws.length := by
  induction ws generalizing bs vs with
  | nil =>
    cases bs with
    | nil => cases h; rfl
    | cons b bs => cases h
  | cons w ws ih =>
    rw [splitFields] at h
    split at h
    · cases h
    · obtain ⟨us, hus, rfl⟩ := Option.map_eq_some_iff.1 h
      rw [List.length_cons, List.length_cons, ih _ _ hus]

/-- The values of a configuration made of forty values are those. -/
theorem cfgValues_cfgOfValues {v : List Nat} (h : v.length = cfgRows.length) :
    cfgValues (cfgOfValues v) = v := by
  have hvalues : cfgValues (cfgOfValues v) = (List.range 40).map (fun i => v.getD i 0) := rfl
  have hlen : v.length = 40 := h
  rw [hvalues]
  refine List.ext_getElem (by simp [hlen]) fun i _ hi => ?_
  rw [List.getElem_map, List.getElem_range, List.getD_eq_getElem _ _ hi]

/-- Every watch point head tested again, in the order of the table of 4.3 (R166). -/
def State.retestAll (s : State) : State :=
  [Watch.stagingEntry, .casing, .pressEntry, .jacket, .outfeed].foldl State.retest s

theorem State.configure_eq (s : State) (c : Cfg) :
    s.configure c = (s.putCfg c).retestAll.bpTests.recomputePeriod.follow := rfl

theorem line_retestAll (s : State) : Line s s.retestAll :=
  (((((line_retest s _).trans (line_retest _ _)).trans (line_retest _ _)).trans
    (line_retest _ _)).trans (line_retest _ _))

/-- A configuration that passes the tests of R166 is in order once in force. -/
theorem keeps_configure (s : State) {c : Cfg} (hr : cfgInRange (cfgValues c) = true)
    (hc : cfgConstraints c = true) : Keeps s (s.configure c) := by
  have hafter : Keeps (s.putCfg c) (s.configure c) :=
    (((keeps_foldl _ keeps_retest _ _).trans (keeps_bpTests _)).trans (keeps_recomputePeriod _)).trans
      (keeps_follow _)
  have hcfg : (s.putCfg c).retestAll.bpTests.cfg = c :=
    ((line_retestAll _).trans (decides_bpTests _).line).cfg
  refine ⟨fun w => hafter.capacity { w with }, fun w => hafter.reserved w,
    fun w => hafter.slots { w with }, fun _ => ?_, fun w => hafter.orders { w with },
    fun w => hafter.rests w⟩
  rw [State.configure_eq]
  exact (keeps_follow _).configured
    (State.configured_recomputed (by rw [hcfg]; exact hr) (by rw [hcfg]; exact hc))

theorem keeps_onSetConfig (body : List Byte) (s : State) : Keeps s (onSetConfig body s).1 := by
  unfold onSetConfig
  split
  · exact .refl s
  · next vs hvs =>
    split
    · exact .refl s
    · split
      · exact .refl s
      · next hrange =>
        split
        · exact .refl s
        · next hconstraints =>
          have hlen : vs.length = cfgRows.length :=
            (length_of_splitFields _ _ _ hvs).trans (List.length_map _)
          have hvalues := cfgValues_cfgOfValues hlen
          dsimp only
          refine keeps_configure s ?_ (by simpa using hconstraints)
          rw [hvalues]
          simpa using hrange

/-- The records alone remain of the line after TRACKING RESET. -/
theorem keeps_trackingReset (s : State) : Keeps s s.trackingReset := by
  refine (keeps_removeAll s s.liveSlots).trans ⟨fun w => ?_, fun _ => ?_, fun w => { w with },
    fun w => ⟨w.ranges, w.constraints, le_rfl, pMin_le_pMax w.constraints⟩,
    fun w => { w with }, fun _ => stopRests_of_not nofun⟩
  · constructor <;> simp [State.trackingReset, StagingUnit.initial, PressUnit.initial,
      DeliveryUnit.initial]
  · exact fun e he => by simp [State.trackingReset, StagingUnit.initial] at he

theorem keeps_onTrackingReset (body : List Byte) (s : State) :
    Keeps s (onTrackingReset body s).1 := by
  refine keeps_noBody ?_ body
  split
  · dsimp only
    exact keeps_trackingReset s
  · exact .refl s

theorem keeps_onRestart (body : List Byte) (s : State) : Keeps s (onRestart body s).1 :=
  keeps_noBody (keeps_link s _) body

theorem keeps_onAdmitClear (body : List Byte) (s : State) : Keeps s (onAdmitClear body s).1 :=
  keeps_noBody (keeps_admitSet s _) body

/-! ### The link -/

theorem keeps_takeRequest {code : Byte} {h : Handler} {body : List Byte} {s : State}
    (hh : Keeps s (h body s).1) : Keeps s (s.takeRequest code h body) := by
  unfold State.takeRequest
  split
  · exact .refl s
  · exact hh.trans (keeps_link _ _)

/-- A request that only answers. -/
theorem keeps_answer {code : Byte} {h : Handler} {body : List Byte} {s : State}
    (hh : (h body s).1 = s) : Keeps s (s.takeRequest code h body) :=
  keeps_takeRequest (by rw [hh]; exact .refl s)

/-- The handlers of the requests other than RESTART, in the order of the table of 10.3. -/
def otherHandlers : List Handler :=
  [onStatus, onReadConfig, onSetConfig, onSetPoint, onReadPoints, onLoadOrder, onAmendOrder,
    onHoldOrder, onResumeOrder, onCloseOrder, onReadOrder, onReadCopyMap, onAdmitAdd, onAdmitClear,
    onReadBook, onFindBook, onListOutcomes, onCollect, onMarkReject, onZoneRun, onZoneStop,
    onZoneHalt, onPurge, onClearFaults, onRearmOutputs, onTrackingReset, onUnknown]

/-- A request is that of RESTART, by its code, or one of the others. -/
theorem handlerOf_cases (code : Byte) :
    (code = 0x3F#8 ∧ handlerOf code = onRestart) ∨ handlerOf code ∈ otherHandlers := by
  unfold handlerOf
  split
  case h_27 h => exact .inl ⟨BitVec.eq_of_toNat_eq h, rfl⟩
  all_goals exact .inr (by simp [otherHandlers])

theorem keeps_otherHandlers (body : List Byte) (s : State) :
    ∀ h ∈ otherHandlers, Keeps s (h body s).1 := by
  have hread {h : Handler} (hh : (h body s).1 = s) : Keeps s (h body s).1 := by rw [hh]; exact .refl s
  simp only [otherHandlers, List.forall_mem_cons]
  exact ⟨hread (fst_onStatus body s), hread (fst_onReadConfig body s), keeps_onSetConfig body s,
    keeps_onSetPoint body s, hread (fst_onReadPoints body s), keeps_onLoadOrder body s,
    keeps_onAmendOrder body s, keeps_onHoldOrder body s, keeps_onResumeOrder body s,
    keeps_onCloseOrder body s, keeps_onReadOrder body s, hread (fst_onReadCopyMap body s),
    keeps_onAdmitAdd body s, keeps_onAdmitClear body s, hread (fst_onReadBook body s),
    hread (fst_onFindBook body s), hread (fst_onListOutcomes body s), keeps_onCollect body s,
    keeps_onMarkReject body s, keeps_onZoneRun body s, keeps_onZoneStop body s,
    keeps_onZoneHalt body s, keeps_onPurge body s, keeps_onClearFaults body s,
    keeps_onRearmOutputs body s, keeps_onTrackingReset body s, hread (fst_onUnknown body s), by simp⟩

theorem keeps_handlerOf (code : Byte) (body : List Byte) (s : State) :
    Keeps s (handlerOf code body s).1 := by
  rcases handlerOf_cases code with ⟨-, h⟩ | h
  · rw [h]
    exact keeps_onRestart body s
  · exact keeps_otherHandlers body s _ h

theorem keeps_takeFrame (s : State) : Keeps s s.takeFrame := by
  unfold State.takeFrame
  split
  · exact keeps_takeRequest (keeps_handlerOf _ _ s)
  · exact keeps_link s _

theorem keeps_linkByte (s : State) (b : Byte) : Keeps s (s.linkByte b) := by
  unfold State.linkByte
  dsimp only
  split
  · split <;> [exact keeps_link s _; exact .refl s]
  · exact keeps_link s _
  · exact keeps_link s _
  · split
    · exact (keeps_takeFrame _).after (keeps_link s _)
    · exact keeps_link s _
  · exact .refl s

/-! ### Power-on -/

/-- An empty line, with the configuration at its defaults, meets the invariants. -/
theorem meets_of_powerOn {t : State} (htable : t.table = BookTable.initial)
    (hstg : t.stg = StagingUnit.initial) (hpress : t.press = PressUnit.initial)
    (hdlv : t.dlv = DeliveryUnit.initial) (hcfg : t.cfg = Cfg.default) (horders : t.orders = []) :
    t.WithinCapacity ∧ t.ReservedIsHead ∧ t.SlotsAccounted ∧ t.Configured ∧ t.OrdersDistinct := by
  refine ⟨?_, ?_, ?_, ⟨by rw [hcfg]; decide, by rw [hcfg]; decide, by rw [hcfg, hpress]; decide⟩, ?_⟩
  · constructor <;> simp [*, BookTable.initial, StagingUnit.initial, PressUnit.initial,
      DeliveryUnit.initial]
  · simp [State.ReservedIsHead, hstg, StagingUnit.initial]
  · constructor <;> simp [htable, BookTable.initial]
  · constructor <;> simp [horders]

theorem keeps_powerOn (s : State) (c : RestartCause) : Keeps s (s.powerOn c) := by
  obtain ⟨hcap, hres, hslots, hcfg, horders⟩ : (s.powerOn c).WithinCapacity ∧ _ := by
    apply meets_of_powerOn <;> rfl
  exact ⟨fun _ => hcap, fun _ => hres, fun _ => hslots, fun _ => hcfg, fun _ => horders,
    fun _ => stopRests_of_not nofun⟩

theorem keeps_responseSent (s : State) : Keeps s s.responseSent := by
  unfold State.responseSent
  split
  · split <;> [exact keeps_powerOn s _; exact keeps_link s _]
  all_goals exact .refl s

/-! ### Commands and steps -/

theorem keeps_addCharacter (s : State) (p : Port) (c : Byte) : Keeps s (s.addCharacter p c) :=
  keeps_setText s p _

theorem keeps_endText (s : State) (p : Port) : Keeps s (s.endText p) := by
  unfold State.endText
  split
  · exact .refl s
  · exact (keeps_setText s p _).trans (keeps_deliverScan _ p _)

theorem keeps_readerCharacter (s : State) (p : Port) (c : Byte) (e : Bool) :
    Keeps s (s.readerCharacter p c e) := by
  unfold State.readerCharacter
  split
  · exact keeps_addCharacter s p _
  · split
    · exact keeps_endText s p
    · split <;> [exact .refl s; exact keeps_addCharacter s p _]

theorem keeps_indexCommand {s t : State} (h : execIndexCommand s = .next t) : Keeps s t := by
  unfold execIndexCommand at h
  split at h
  · split at h <;> cases h
    · exact (keeps_reach s _).trans (keeps_pressTest _)
    · exact keeps_pressTest s
  · cases h
    exact .refl s

theorem keeps_eyeBlocked (s : State) (e : Eye) : Keeps s (s.eyeBlocked e) :=
  keeps_risingInput s _ (keeps_leadingEdge · e)

theorem keeps_eyeClears (s : State) (e : Eye) : Keeps s (s.eyeClears e) :=
  keeps_fallingInput s _ (keeps_trailingEdge · e)

/-- Every command keeps the invariants. -/
theorem keeps_exec {c : Instr} {s t : State} (h : exec c s = .next t) : Keeps s t := by
  cases c with
  | indexCommand => exact keeps_indexCommand h
  | _ => ?_
  all_goals obtain rfl := Host.Outcome.next.inj h
  case powerOn => exact keeps_powerOn s _
  case linkByteReceived b => exact keeps_linkByte s b
  case linkGapTimeout => exact keeps_expire s _ fun t => keeps_link t _
  case responseSent => exact keeps_responseSent s
  case unknownRequest code body => exact keeps_answer rfl
  case status body => exact keeps_answer (fst_onStatus body s)
  case readConfig body => exact keeps_answer (fst_onReadConfig body s)
  case setConfig body => exact keeps_takeRequest (keeps_onSetConfig body s)
  case setPoint body => exact keeps_takeRequest (keeps_onSetPoint body s)
  case readPoints body => exact keeps_answer (fst_onReadPoints body s)
  case loadOrder body => exact keeps_takeRequest (keeps_onLoadOrder body s)
  case amendOrder body => exact keeps_takeRequest (keeps_onAmendOrder body s)
  case holdOrder body => exact keeps_takeRequest (keeps_onHoldOrder body s)
  case resumeOrder body => exact keeps_takeRequest (keeps_onResumeOrder body s)
  case closeOrder body => exact keeps_takeRequest (keeps_onCloseOrder body s)
  case readOrder body => exact keeps_takeRequest (keeps_onReadOrder body s)
  case readCopyMap body => exact keeps_answer (fst_onReadCopyMap body s)
  case admitAdd body => exact keeps_takeRequest (keeps_onAdmitAdd body s)
  case admitClear body => exact keeps_takeRequest (keeps_onAdmitClear body s)
  case readBook body => exact keeps_answer (fst_onReadBook body s)
  case findBook body => exact keeps_answer (fst_onFindBook body s)
  case listOutcomes body => exact keeps_answer (fst_onListOutcomes body s)
  case collect body => exact keeps_takeRequest (keeps_onCollect body s)
  case markReject body => exact keeps_takeRequest (keeps_onMarkReject body s)
  case zoneRun body => exact keeps_takeRequest (keeps_onZoneRun body s)
  case zoneStop body => exact keeps_takeRequest (keeps_onZoneStop body s)
  case zoneHalt body => exact keeps_takeRequest (keeps_onZoneHalt body s)
  case purge body => exact keeps_takeRequest (keeps_onPurge body s)
  case clearFaults body => exact keeps_takeRequest (keeps_onClearFaults body s)
  case rearmOutputs body => exact keeps_takeRequest (keeps_onRearmOutputs body s)
  case trackingReset body => exact keeps_takeRequest (keeps_onTrackingReset body s)
  case restart body => exact keeps_takeRequest (keeps_onRestart body s)
  case readerCharacter p c e => exact keeps_readerCharacter s p c e
  case readerGapTimeout p => exact keeps_expire s _ (keeps_discardText · p)
  case gaugeReading v => exact keeps_of_eq rfl rfl rfl rfl rfl rfl rfl rfl rfl rfl id
  case encoderPhaseChange z x y =>
    exact ((keeps_setLevel s _ _).trans (keeps_setLevel _ _ _)).trans (keeps_takePhases _ z)
  case backTravel z => exact (keeps_backTravelTest s z).trans (keeps_follow _)
  case samplePoint => exact (keeps_sampleTest s).trans (keeps_follow _)
  case spanOverrun => exact (keeps_spanTest s).trans (keeps_follow _)
  case readWindowClose => exact (keeps_windowTest s).trans (keeps_follow _)
  case watchWindowOpen w => exact (keeps_openTest s w).trans (keeps_follow _)
  case headMissing w => exact (keeps_missingTest s w).trans (keeps_follow _)
  case gaugeTrailingEdge | eyeTrailingEdge => exact keeps_eyeClears s _
  case gaugeLeadingEdge | watchPointArrival | releaseEyeEdge | rejectEyeEdge | casingExitEyeEdge |
      unloadEyeEdge | jacketExitEyeEdge =>
    exact keeps_eyeBlocked s _
  case caseFed => exact keeps_risingInput s _ keeps_onCaseFed
  case caseEjected => exact keeps_risingInput s _ keeps_onCaseEjected
  case casingDone => exact keeps_risingInput s _ keeps_onCasingDone
  case casingFault => exact keeps_risingInput s _ keeps_onCasingFault
  case indexDone => exact keeps_risingInput s _ keeps_onIndexDone
  case jacketFed => exact keeps_risingInput s _ keeps_onJacketFed
  case jacketEjected => exact keeps_risingInput s _ keeps_onJacketEjected
  case jacketDone => exact keeps_risingInput s _ keeps_onJacketDone
  case jacketFault => exact keeps_risingInput s _ keeps_onJacketFault
  case guardOpens => exact keeps_fallingInput s _ keeps_refreshGuard
  case guardCloses => exact keeps_risingInput s _ keeps_refreshGuard
  case drainEnd z => exact keeps_drainTest s z
  case stagingHeadDecision => exact keeps_stagingDecide s
  case jacketStopDecision => exact keeps_jacketDecide s
  case casingCycleBegin => exact keeps_casingCycleTest s
  case casingReleaseCommand => exact keeps_casingReleaseTest s
  case jacketReleaseCommand => exact keeps_jacketReleaseTest s
  case stagingReleaseTimeout => exact keeps_expire s _ keeps_onStagingReleaseTimeout
  case casingReleaseTimeout => exact keeps_expire s _ keeps_onCasingReleaseTimeout
  case caseEjectTimeout => exact keeps_expire s _ keeps_onCaseEjectTimeout
  case casingTimeout => exact keeps_expire s _ keeps_onCasingTimeout
  case earlyHoldExpiry => exact keeps_expire s _ keeps_onEarlyHoldExpiry
  case caseWaitExpiry => exact keeps_expire s _ keeps_onCaseWaitExpiry
  case indexTimeout => exact keeps_expire s _ keeps_onIndexTimeout
  case unloadGraceExpiry => exact keeps_expire s _ keeps_onUnloadGraceExpiry
  case jacketEjectTimeout => exact keeps_expire s _ keeps_onJacketEjectTimeout
  case jacketCycleTimeout => exact keeps_expire s _ keeps_onJacketCycleTimeout
  case jacketReleaseTimeout => exact keeps_expire s _ keeps_onJacketReleaseTimeout
  case jacketWaitExpiry => exact keeps_expire s _ keeps_onJacketWaitExpiry
  case speedPeriod => exact keeps_expire s _ keeps_onSpeedPeriod

/-- A step is a tick, or the command at the front of the queue with the queue's rest. -/
theorem step_cases {s t : State} (h : step s = .next t) :
    (s.pending = [] ∧ t = s.tick) ∨
      ∃ c rest, s.pending = c :: rest ∧ exec c { s with pending := rest } = .next t := by
  unfold step at h
  split at h
  · next hp => exact .inl ⟨hp, (Host.Outcome.next.inj h).symm⟩
  · next c rest hp => exact .inr ⟨c, rest, hp, h⟩

/-- Every step keeps the invariants. -/
theorem keeps_step {s t : State} (h : step s = .next t) : Keeps s t := by
  rcases step_cases h with ⟨-, rfl⟩ | ⟨c, rest, -, hexec⟩
  · exact keeps_tick s
  · exact (keeps_exec hexec).after (keeps_of_eq rfl rfl rfl rfl rfl rfl rfl rfl rfl rfl id)

/-- Settles O58: `keeps_step`, the collections and the reserved case. -/
theorem stepsKeepTheCapacities : Obligations.StepsKeepTheCapacities := fun _ _ hcap hres h =>
  ⟨(keeps_step h).capacity hcap, (keeps_step h).reserved hres⟩

/-- Settles O59: `keeps_step`, the slots and the outcome list. -/
theorem stepsKeepTheSlots : Obligations.StepsKeepTheSlots := fun _ _ hslots h =>
  (keeps_step h).slots hslots

/-- Settles O60: `keeps_step`, the configuration and the Order Table. -/
theorem stepsKeepTheTables : Obligations.StepsKeepTheTables := fun _ _ hcfg horders h =>
  ⟨(keeps_step h).configured hcfg, (keeps_step h).orders horders⟩

end Sys2Proof.Machine
end

section
/-! SUPPORT. What the line's moves, its edges and its timers leave of the queue of commands, the clock, the
configuration, the link and the points (`Calm`), what every request leaves of the queue, the clock and the
link (`Serves`), and what every command leaves of the queue (`Runs`). -/

namespace Sys2Proof.Machine

/-! ### The relations -/

/-- What stands through every edge, handshake and expiry that is not a trip: the queue of commands, the
clock, the configuration, the link, the Admit Set, the points and the arming; and no zone becomes RUNNING
or DRAINING. -/
structure Calm (s t : State) : Prop where
  pending : t.pending = s.pending
  clock : t.clock = s.clock
  cause : t.cause = s.cause
  cfg : t.cfg = s.cfg
  link : t.link = s.link
  admitSet : t.admitSet = s.admitSet
  io : t.io = s.io
  active : ∀ z, t.active z = true → s.active z = true

theorem Calm.refl (s : State) : Calm s s := ⟨rfl, rfl, rfl, rfl, rfl, rfl, rfl, fun _ h => h⟩

theorem Calm.trans {s t u : State} (h : Calm s t) (g : Calm t u) : Calm s u where
  pending := g.pending.trans h.pending
  clock := g.clock.trans h.clock
  cause := g.cause.trans h.cause
  cfg := g.cfg.trans h.cfg
  link := g.link.trans h.link
  admitSet := g.admitSet.trans h.admitSet
  io := g.io.trans h.io
  active z hz := h.active z (g.active z hz)

theorem Calm.after {s t u : State} (g : Calm t u) (h : Calm s t) : Calm s u := h.trans g

theorem Line.after {s t u : State} (g : Line t u) (h : Line s t) : Line s u := h.trans g

theorem Line.calm {s t : State} (h : Line s t) : Calm s t where
  pending := h.pending
  clock := h.clock
  cause := h.cause
  cfg := h.cfg
  link := h.link
  admitSet := h.admitSet
  io := h.io
  active := h.active

theorem Decides.calm {s t : State} (h : Decides s t) : Calm s t := h.line.calm

theorem active_of_zones {s t : State} (h : t.zones = s.zones) (z : Zone) : t.active z = s.active z := by
  rw [Bool.eq_iff_iff, State.active_iff, State.active_iff, State.zoneState, State.zoneState, h]

theorem calm_of_eq {s t : State} (hpending : t.pending = s.pending) (hclock : t.clock = s.clock)
    (hcause : t.cause = s.cause) (hcfg : t.cfg = s.cfg) (hlink : t.link = s.link)
    (hadmit : t.admitSet = s.admitSet) (hio : t.io = s.io) (hzones : t.zones = s.zones) :
    Calm s t :=
  ⟨hpending, hclock, hcause, hcfg, hlink, hadmit, hio, fun z => by
    rw [active_of_zones hzones]; exact id⟩

theorem reads_of_io {s t : State} (h : t.io = s.io) (n : Nat) : t.reads n = s.reads n := by
  simp only [State.reads, State.point, h]

theorem Calm.guarded {s t : State} (h : Calm s t) (g : s.Guarded) : t.Guarded where
  guard_reads := by rw [reads_of_io h.io, h.io]; exact g.guard_reads
  armed_closed := by rw [h.io]; exact g.armed_closed
  active_armed z hz := by rw [h.io]; exact g.active_armed z (h.active z hz)

/-- What stands through every request, while the link answers it, and the invariant of the guard. -/
structure Serves (s t : State) : Prop where
  pending : t.pending = s.pending
  clock : t.clock = s.clock
  cause : t.cause = s.cause
  link : t.link = s.link
  guarded : s.Guarded → t.Guarded

theorem Serves.refl (s : State) : Serves s s := ⟨rfl, rfl, rfl, rfl, id⟩

theorem Serves.trans {s t u : State} (h : Serves s t) (g : Serves t u) : Serves s u :=
  ⟨g.pending.trans h.pending, g.clock.trans h.clock, g.cause.trans h.cause, g.link.trans h.link,
    fun w => g.guarded (h.guarded w)⟩

theorem Serves.after {s t u : State} (g : Serves t u) (h : Serves s t) : Serves s u := h.trans g

theorem Calm.serves {s t : State} (h : Calm s t) : Serves s t :=
  ⟨h.pending, h.clock, h.cause, h.link, h.guarded⟩

theorem Line.serves {s t : State} (h : Line s t) : Serves s t := h.calm.serves

theorem Decides.serves {s t : State} (h : Decides s t) : Serves s t := h.calm.serves

theorem serves_of_eq {s t : State} (hpending : t.pending = s.pending) (hclock : t.clock = s.clock)
    (hcause : t.cause = s.cause) (hlink : t.link = s.link) (hio : t.io = s.io)
    (hzones : t.zones = s.zones) : Serves s t where
  pending := hpending
  clock := hclock
  cause := hcause
  link := hlink
  guarded w :=
    { guard_reads := by rw [reads_of_io hio, hio]; exact w.guard_reads
      armed_closed := by rw [hio]; exact w.armed_closed
      active_armed := fun z hz => by rw [hio]; exact w.active_armed z (active_of_zones hzones z ▸ hz) }

/-- What every command leaves: the queue of the commands that wait, and the invariant of the guard. -/
structure Runs (s t : State) : Prop where
  pending : t.pending = s.pending
  guarded : s.Guarded → t.Guarded

theorem Runs.refl (s : State) : Runs s s := ⟨rfl, id⟩

theorem Runs.trans {s t u : State} (h : Runs s t) (g : Runs t u) : Runs s u :=
  ⟨g.pending.trans h.pending, fun w => g.guarded (h.guarded w)⟩

theorem Serves.runs {s t : State} (h : Serves s t) : Runs s t := ⟨h.pending, h.guarded⟩

theorem Calm.runs {s t : State} (h : Calm s t) : Runs s t := h.serves.runs

theorem Line.runs {s t : State} (h : Line s t) : Runs s t := h.serves.runs

theorem Decides.runs {s t : State} (h : Decides s t) : Runs s t := h.serves.runs

theorem runs_of_eq {s t : State} (hpending : t.pending = s.pending) (hio : t.io = s.io)
    (hzones : t.zones = s.zones) : Runs s t where
  pending := hpending
  guarded w :=
    { guard_reads := by rw [reads_of_io hio, hio]; exact w.guard_reads
      armed_closed := by rw [hio]; exact w.armed_closed
      active_armed := fun z hz => by rw [hio]; exact w.active_armed z (active_of_zones hzones z ▸ hz) }

/-! ### Edges -/

theorem calm_noteEdge (s : State) (e : Eye) : Calm s (s.noteEdge e) := by apply calm_of_eq <;> rfl

theorem calm_setBelt (s : State) (z : Belt) (k : BeltState) : Calm s (s.setBelt z k) := by
  apply calm_of_eq <;> rfl

theorem calm_takePhases (s : State) (z : Belt) : Calm s (s.takePhases z) := by
  unfold State.takePhases
  dsimp only
  split
  · exact (line_follow _).calm.after ((line_upTests _ z).calm.after (calm_setBelt s z _))
  · exact (line_follow _).calm.after ((line_fault _ _ _).calm.after (calm_setBelt s z _))
  · exact (line_follow _).calm.after ((line_downTests _ z).calm.after (calm_setBelt s z _))
  · exact .refl s

theorem line_arrive (s : State) (w : Watch) (b : Book) : Line s (s.arrive w b) := by
  have hput (u : State) (w : Watch) : Line u (u.newHead w).follow :=
    (line_newHead u w).trans (line_follow _)
  cases w with
  | stagingEntry =>
    show Line s (s.arriveStaging b)
    unfold State.arriveStaging
    split
    · exact (hput _ _).after (by apply line_of_eq <;> rfl)
    · exact .refl s
  | casing =>
    show Line s (s.arriveCasing b)
    unfold State.arriveCasing
    exact (line_follow _).after ((decides_casingCycleTest _).line.after ((line_setOpened _ _ _).after
      ((line_setCasing _ _).after (line_updBook s _ _))))
  | pressEntry =>
    show Line s (s.arrivePress b)
    have hperiod (t : State) : Line t t.recomputePeriod := by apply line_of_eq <;> rfl
    unfold State.arrivePress
    split
    · exact (decides_pressTest _).line.after ((line_follow _).after ((hperiod _).after
        ((line_newHead _ _).after (by apply line_of_eq <;> rfl))))
    · exact .refl s
  | jacket =>
    show Line s (s.arriveJacket b)
    unfold State.arriveJacket
    split
    · exact (hput _ _).after (by apply line_of_eq <;> rfl)
    all_goals exact .refl s
  | outfeed =>
    show Line s (s.arriveOutfeed b)
    unfold State.arriveOutfeed
    split
    · exact (hput _ _).after (line_retire s _ _)
    · exact .refl s

theorem line_unexpected (s : State) (z : Belt) : Line s (s.unexpected z) := line_fault s _ _

theorem calm_watchEdge (s : State) (w : Watch) : Calm s (s.watchEdge w) := by
  unfold State.watchEdge
  refine (calm_noteEdge s (watchEye w)).trans (Line.calm ?_)
  dsimp only
  split
  · split <;> [exact line_arrive _ w _; exact line_unexpected _ _]
  · exact line_unexpected _ _

theorem line_crowdTest (s : State) (c : Count) : Line s (s.crowdTest c) := by
  have hlead (t : State) : Line t { t with table := { t.table with lastLead := some c } } := by
    apply line_of_eq <;> rfl
  unfold State.crowdTest
  dsimp only
  split
  · split <;> [exact (line_fault s _ _).trans (hlead _); exact hlead s]
  · exact hlead s

theorem line_createBook (s : State) (slot : Nat) (c : Count) : Line s (s.createBook slot c) := by
  apply line_of_eq <;> rfl

theorem line_takeGauging (s : State) (slot seq : Nat) : Line s (s.takeGauging slot seq) :=
  (line_forceCompletion s).trans (line_setGauging _ _)

theorem line_ite_newHead (c : Bool) (s : State) (w : Watch) :
    Line s (if c then s.newHead w else s) := by
  cases c with
  | true => exact line_newHead s w
  | false => exact .refl s

theorem calm_gaugeLeading (s : State) : Calm s s.gaugeLeading := by
  unfold State.gaugeLeading
  dsimp only
  refine (calm_noteEdge s .gauge).trans (Line.calm ?_)
  refine (line_crowdTest _ ((s.noteEdge .gauge).captureOf .gauge)).trans ?_
  split
  · split
    · exact ((line_createBook _ _ _).trans (line_takeGauging _ _ _)).trans
        ((line_ite_newHead _ _ _).trans (line_follow _))
    · exact line_fault _ _ _
  · exact line_fault _ _ _

theorem calm_releaseEdge (s : State) : Calm s s.releaseEdge := by
  have hidle (t : State) : Line t (t.setSide (.idle .none)).follow :=
    (line_setSide t _).trans (line_follow _)
  unfold State.releaseEdge
  refine (calm_noteEdge s .release).trans (Line.calm ?_)
  dsimp only
  split
  · split
    · split
      · exact (line_follow _).after ((line_newHead _ _).after (by apply line_of_eq <;> rfl))
      · exact hidle _
    · exact hidle _
  all_goals exact line_unexpected _ _

theorem calm_rejectEdge (s : State) : Calm s s.rejectEdge := by
  unfold State.rejectEdge
  refine (calm_noteEdge s .reject).trans (Line.calm ?_)
  dsimp only
  split
  case h_1 =>
    refine (line_setSide _ (.idle .none)).trans ?_
    split <;> [exact (line_retire _ _ _).trans (line_follow _); exact line_follow _]
  all_goals exact line_unexpected _ _

theorem calm_casingExitEdge (s : State) : Calm s s.casingExitEdge := by
  unfold State.casingExitEdge
  refine (calm_noteEdge s .casingExit).trans (Line.calm ?_)
  dsimp only
  split
  case h_1 =>
    split
    · exact (line_follow _).after ((line_ite_newHead _ _ _).after (by apply line_of_eq <;> rfl))
    · exact line_setCasing _ _
  all_goals exact line_unexpected _ _

theorem calm_jacketExitEdge (s : State) : Calm s s.jacketExitEdge := by
  unfold State.jacketExitEdge
  refine (calm_noteEdge s .jacketExit).trans (Line.calm ?_)
  dsimp only
  split
  case h_1 =>
    split
    · exact (line_follow _).after ((line_ite_newHead _ _ _).after (by apply line_of_eq <;> rfl))
    · exact line_setStop _ _
  all_goals exact line_unexpected _ _

theorem calm_unloadEdge (s : State) : Calm s s.unloadEdge := by
  unfold State.unloadEdge
  refine (calm_noteEdge s .unload).trans (Line.calm ?_)
  dsimp only
  split
  · refine (decides_pressTest _).line.after ((line_follow _).after ?_)
    split
    · exact (line_retest _ _).after (by apply line_of_eq <;> rfl)
    · apply line_of_eq <;> rfl
  · exact line_unexpected _ _

theorem calm_leadingEdge (s : State) (e : Eye) : Calm s (s.leadingEdge e) := by
  cases e with
  | gauge => exact calm_gaugeLeading s
  | release => exact calm_releaseEdge s
  | reject => exact calm_rejectEdge s
  | casingExit => exact calm_casingExitEdge s
  | unload => exact calm_unloadEdge s
  | jacketExit => exact calm_jacketExitEdge s
  | stageEntry | casing | pressEntry | jacket | outfeed => exact calm_watchEdge s _

theorem line_gaugeTrailing (s : State) (c : Count) : Line s (s.gaugeTrailing c) := by
  unfold State.gaugeTrailing
  split
  · have hsettle := line_settleSamples s
    dsimp only
    split
    · split
      · exact (line_completionTest _).after ((line_setGauging _ _).after
          (hsettle.trans (line_updBook _ _ _)))
      · exact (line_completionTest _).after (hsettle.trans (line_setGauging _ _))
    · exact hsettle.trans (line_completionTest _)
  · exact .refl s

theorem line_trailingEdge (s : State) (e : Eye) : Line s (s.trailingEdge e) := by
  cases e with
  | gauge => exact (line_gaugeTrailing s _).trans (line_follow _)
  | _ => exact .refl s

/-! ### Handshakes -/

theorem line_countCaseEjection (s : State) (i : Identity) : Line s (s.countCaseEjection i) := by
  cases i with
  | ident i => exact line_updOrder s _ _
  | unreadable | conflict => exact .refl s

theorem line_countJacketEjection (s : State) (i : Identity) : Line s (s.countJacketEjection i) := by
  cases i with
  | ident i => exact line_updOrder s _ _
  | unreadable | conflict => exact .refl s

theorem line_removeEjectedCase (s : State) : Line s s.removeEjectedCase := by
  unfold State.removeEjectedCase
  split
  · exact .refl s
  · exact (line_countCaseEjection _ _).after (by apply line_of_eq <;> rfl)

theorem line_removeEjectedJacket (s : State) : Line s s.removeEjectedJacket := by
  unfold State.removeEjectedJacket
  split
  · exact .refl s
  · exact (line_countJacketEjection _ _).after (by apply line_of_eq <;> rfl)

theorem calm_onCaseFed (s : State) : Calm s s.onCaseFed := by
  unfold State.onCaseFed
  dsimp only
  split
  · exact (decides_stagingDecide _).calm.after (by apply calm_of_eq <;> rfl)
  · exact (line_fault _ _ _).calm.after (by apply calm_of_eq <;> rfl)

theorem calm_onJacketFed (s : State) : Calm s s.onJacketFed := by
  unfold State.onJacketFed
  dsimp only
  split
  · exact (decides_jacketDecide _).calm.after (by apply calm_of_eq <;> rfl)
  · exact (line_fault _ _ _).calm.after (by apply calm_of_eq <;> rfl)

theorem line_onCaseEjected (s : State) : Line s s.onCaseEjected := by
  have hremove := line_removeEjectedCase s
  have hclear (t : State) : Line t t.clearOverdue := by apply line_of_eq <;> rfl
  unfold State.onCaseEjected
  split
  · exact ((hremove.trans (line_setSide _ _)).trans (decides_stagingDecide _).line).trans
      (decides_drainTests _).line
  · split
    · exact (hremove.trans (hclear _)).trans (decides_stagingDecide _).line
    · exact .refl s

theorem line_onJacketEjected (s : State) : Line s s.onJacketEjected := by
  have hremove := line_removeEjectedJacket s
  have hclear (t : State) : Line t t.clearJacketOverdue := by apply line_of_eq <;> rfl
  unfold State.onJacketEjected
  split
  case h_1 =>
    exact ((hremove.trans (line_setStop _ _)).trans (decides_jacketDecide _).line).trans
      (decides_drainTests _).line
  all_goals
    split
    · exact (hremove.trans (hclear _)).trans (decides_jacketDecide _).line
    · exact .refl s

theorem line_setReason (s : State) (r : Nat) (why : Reason) : Line s (s.setReason r why) :=
  line_updBook s r _

theorem line_setJacketResult (s : State) (r : Nat) (res : JacketResult) :
    Line s (s.setJacketResult r res) := line_updBook s r _

theorem line_onCasingDone (s : State) : Line s s.onCasingDone := by
  unfold State.onCasingDone
  split
  case h_1 =>
    exact ((line_setCasing s _).trans (decides_casingReleaseTest _).line).trans
      (decides_drainTests _).line
  all_goals exact .refl s

theorem line_onCasingFault (s : State) : Line s s.onCasingFault := by
  unfold State.onCasingFault
  split
  case h_1 =>
    exact (((line_setReason s _ _).trans (line_setCasing _ _)).trans
      (decides_casingReleaseTest _).line).trans (decides_drainTests _).line
  all_goals exact .refl s

theorem line_onJacketDone (s : State) : Line s s.onJacketDone := by
  unfold State.onJacketDone
  split
  case h_1 =>
    exact ((line_setJacketResult s _ _).trans (line_setStop _ _)).trans
      (decides_jacketReleaseTest _).line
  all_goals exact .refl s

theorem line_onJacketFault (s : State) : Line s s.onJacketFault := by
  unfold State.onJacketFault
  split
  case h_1 =>
    exact ((line_setJacketResult s _ _).trans (line_setStop _ _)).trans
      (decides_jacketReleaseTest _).line
  all_goals exact .refl s

theorem line_applyUnload (s : State) (p r : Nat) : Line s (s.applyUnload p r) := by
  unfold State.applyUnload
  split
  · split <;> [(apply line_of_eq <;> rfl); exact .refl s]
  · exact .refl s

theorem line_applyLoad (s : State) (p r : Nat) (at_ : Clock) : Line s (s.applyLoad p r at_) := by
  unfold State.applyLoad
  split
  · split <;> [(apply line_of_eq <;> rfl); exact .refl s]
  · exact .refl s

theorem line_applyRideOn (s : State) (op : IndexOp) (occupant : Option Nat) :
    Line s (s.applyRideOn op occupant) := by
  unfold State.applyRideOn
  split <;> [exact line_updBook s _ _; exact .refl s]

/-- The ring turned by one pitch, with no index in flight (R125 steps 1 and 2). -/
def State.turned (s : State) : State := { s with press := { s.press with
  index := none, rotation := (s.press.rotation + 1) % 24 } }

/-- The unload of an index, if it has one. -/
def State.unloadOf (s : State) (op : IndexOp) : State :=
  match op.unload with | some (p, r) => s.applyUnload p r | none => s

/-- The load of an index, if it has one. -/
def State.loadOf (s : State) (op : IndexOp) : State :=
  match op.load with | some (p, r) => s.applyLoad p r op.timer.since | none => s

theorem State.applyIndex_eq (s : State) (op : IndexOp) :
    s.applyIndex op =
      (((s.turned.unloadOf op).loadOf op).applyRideOn op (s.pocket? op.station)).recomputePeriod := rfl

theorem line_applyIndex (s : State) (op : IndexOp) : Line s (s.applyIndex op) := by
  have hunload (t : State) : Line t (t.unloadOf op) := by
    unfold State.unloadOf
    split <;> [exact line_applyUnload t _ _; exact .refl t]
  have hload (t : State) : Line t (t.loadOf op) := by
    unfold State.loadOf
    split <;> [exact line_applyLoad t _ _ _; exact .refl t]
  have hturn : Line s s.turned := by apply line_of_eq <;> rfl
  have hperiod (t : State) : Line t t.recomputePeriod := by apply line_of_eq <;> rfl
  rw [State.applyIndex_eq]
  exact (((hturn.trans (hunload _)).trans (hload _)).trans (line_applyRideOn _ _ _)).trans (hperiod _)

theorem line_onIndexDone (s : State) : Line s s.onIndexDone := by
  unfold State.onIndexDone
  split
  · exact (decides_pressTest _).line.after ((line_follow _).after ((line_ite_newHead _ _ _).after
      (line_applyIndex s _)))
  · exact .refl s

theorem calm_onHandshake (s : State) (n : Nat) : Calm s (s.onHandshake n) := by
  unfold State.onHandshake
  split
  · exact calm_onCaseFed s
  · exact (line_onCaseEjected s).calm
  · exact (line_onCasingDone s).calm
  · exact (line_onCasingFault s).calm
  · exact (line_onIndexDone s).calm
  · exact calm_onJacketFed s
  · exact (line_onJacketEjected s).calm
  · exact (line_onJacketDone s).calm
  · exact (line_onJacketFault s).calm
  · exact .refl s

/-! ### Expiries -/

theorem calm_deliverScan (s : State) (p : Port) (o : ScanOutcome) : Calm s (s.deliverScan p o) := by
  cases p with
  | casePort | jacketPort => apply calm_of_eq <;> rfl
  | blockPort =>
    show Calm s (s.blockScan o)
    unfold State.blockScan
    split
    · split
      case h_4 => exact .refl s
      all_goals exact (line_setGauging s _).calm
    · exact .refl s

theorem calm_setText (s : State) (p : Port) (t : RxText) : Calm s (s.setText p t) := by
  apply calm_of_eq <;> rfl

theorem calm_discardText (s : State) (p : Port) : Calm s (s.discardText p) :=
  (calm_setText s p _).trans (calm_deliverScan _ p _)

theorem line_onStagingReleaseTimeout (s : State) : Line s s.onStagingReleaseTimeout := by
  unfold State.onStagingReleaseTimeout
  refine (decides_drainTests _).line.after ((line_fault _ _ _).after ((line_setSide _ _).after ?_))
  split <;> [exact line_unreserve s; exact .refl s; exact .refl s; exact .refl s]

theorem line_onCasingReleaseTimeout (s : State) : Line s s.onCasingReleaseTimeout := by
  unfold State.onCasingReleaseTimeout
  split
  case h_1 => exact (line_setCasing s _).trans (line_fault _ _ _)
  all_goals exact .refl s

theorem line_onCaseEjectTimeout (s : State) : Line s s.onCaseEjectTimeout :=
  (line_fault _ _ _).after (by apply line_of_eq <;> rfl)

theorem line_onCasingTimeout (s : State) : Line s s.onCasingTimeout := by
  unfold State.onCasingTimeout
  split
  case h_1 => exact ((line_setReason s _ _).trans (line_setCasing _ _)).trans (line_fault _ _ _)
  all_goals exact .refl s

theorem line_onEarlyHoldExpiry (s : State) : Line s s.onEarlyHoldExpiry := by
  unfold State.onEarlyHoldExpiry
  refine (line_setSide s (.idle .none)).trans ?_
  dsimp only
  split <;> [exact (line_unbind _ _ _).trans (decides_stagingDecide _).line; exact .refl _]

theorem line_onCaseWaitExpiry (s : State) : Line s s.onCaseWaitExpiry := by
  unfold State.onCaseWaitExpiry
  refine (line_setSide s (.idle .none)).trans ?_
  dsimp only
  split <;> [exact (line_setReason _ _ _).trans (decides_stagingDecide _).line; exact .refl _]

theorem line_tripPress (s : State) : Line s s.tripPress := by apply line_of_eq <;> rfl

theorem line_onIndexTimeout (s : State) : Line s s.onIndexTimeout :=
  (((line_tripPress s).trans (line_fault _ _ _)).trans (decides_drainTests _).line).trans
    (decides_pressTest _).line

theorem line_onUnloadGraceExpiry (s : State) : Line s s.onUnloadGraceExpiry := by
  have hend (t : State) : Line t { t with press := { t.press with awaited := none } } := by
    apply line_of_eq <;> rfl
  unfold State.onUnloadGraceExpiry
  split
  · exact (decides_pressTest _).line.after ((line_follow _).after ((line_ite_newHead _ _ _).after
      ((hend _).after ((line_retire s _ _).trans (line_fault _ _ _)))))
  · exact .refl s

theorem line_onJacketEjectTimeout (s : State) : Line s s.onJacketEjectTimeout := by
  unfold State.onJacketEjectTimeout
  split
  case h_1 => exact (line_fault _ _ _).after (by apply line_of_eq <;> rfl)
  all_goals exact .refl s

theorem line_onJacketCycleTimeout (s : State) : Line s s.onJacketCycleTimeout := by
  unfold State.onJacketCycleTimeout
  split
  case h_1 => exact ((line_setJacketResult s _ _).trans (line_fault _ _ _)).trans (line_setStop _ _)
  all_goals exact .refl s

theorem line_onJacketReleaseTimeout (s : State) : Line s s.onJacketReleaseTimeout := by
  unfold State.onJacketReleaseTimeout
  split
  case h_1 =>
    exact ((line_fault s _ _).trans (line_setStop _ _)).trans (decides_bpTest _ _).line
  all_goals exact .refl s

theorem line_onJacketWaitExpiry (s : State) : Line s s.onJacketWaitExpiry := by
  unfold State.onJacketWaitExpiry
  split
  case h_1 =>
    exact ((line_setJacketResult s _ _).trans (line_setStop _ _)).trans
      (decides_jacketReleaseTest _).line
  all_goals exact .refl s

theorem calm_onSpeedPeriod (s : State) : Calm s s.onSpeedPeriod := by apply calm_of_eq <;> rfl

/-- Every expiry but that of the link's gap timer. -/
theorem calm_timedEffects : ∀ p ∈ timedEffects.tail, ∀ s, Calm s (p.2 s) := by
  simp only [timedEffects, List.tail_cons, List.forall_mem_cons]
  exact ⟨fun s => calm_discardText s _, fun s => calm_discardText s _,
    fun s => calm_discardText s _, calm_onSpeedPeriod, fun s => (line_onStagingReleaseTimeout s).calm,
    fun s => (line_onCaseEjectTimeout s).calm, fun s => (line_onEarlyHoldExpiry s).calm,
    fun s => (line_onCaseWaitExpiry s).calm, fun s => (line_onCasingTimeout s).calm,
    fun s => (line_onCasingReleaseTimeout s).calm, fun s => (line_onIndexTimeout s).calm,
    fun s => (line_onUnloadGraceExpiry s).calm, fun s => (line_onJacketEjectTimeout s).calm,
    fun s => (line_onJacketCycleTimeout s).calm, fun s => (line_onJacketReleaseTimeout s).calm,
    fun s => (line_onJacketWaitExpiry s).calm, by simp⟩

theorem calm_expiries (l : List ((State → Option Timer) × (State → State)))
    (h : ∀ p ∈ l, ∀ s, Calm s (p.2 s)) (s : State) : Calm s (State.expiries l s) := by
  induction l generalizing s with
  | nil => exact .refl s
  | cons p l ih =>
    refine Calm.trans ?_ (ih (fun q hq => h q (by simp [hq])) (s.expireIfDue (p.1 s) p.2))
    unfold State.expireIfDue
    split
    · split <;> [exact h p (by simp) s; exact .refl s]
    · exact .refl s

theorem State.expiries_cons (p : (State → Option Timer) × (State → State))
    (l : List ((State → Option Timer) × (State → State))) (s : State) :
    State.expiries (p :: l) s = State.expiries l (s.expireIfDue (p.1 s) p.2) := rfl

theorem timedEffects_eq :
    timedEffects = (State.linkGapTimer, State.discardFrame) :: timedEffects.tail := rfl

/-- The link's gap timer expires first. -/
theorem State.expiries_gap (s : State) : State.expiries timedEffects s =
    State.expiries timedEffects.tail (s.expireIfDue s.linkGapTimer State.discardFrame) :=
  (congrArg (State.expiries · s) timedEffects_eq).trans (State.expiries_cons _ _ s)

/-- A link's frame discarded, or nothing. -/
theorem State.expireGap_cases (s : State) :
    s.expireIfDue s.linkGapTimer State.discardFrame = s.discardFrame ∨
      s.expireIfDue s.linkGapTimer State.discardFrame = s := by
  unfold State.expireIfDue
  split
  · split <;> simp
  · exact .inr rfl

/-- The idle step is 1 ms of line clock, and after it what is `Calm`, but for a frame discarded. -/
theorem calm_tick (s : State) : ∃ l : Link,
    Calm { s with clock := s.clock + 1#32, link := l } s.tick := by
  rw [State.tick_eq, State.expiries_gap]
  have hrest (t : State) : Calm t (State.expiries timedEffects.tail t).pressTest :=
    (calm_expiries _ calm_timedEffects t).trans (decides_pressTest _).calm
  rcases ({ s with clock := s.clock + 1#32 } : State).expireGap_cases with h | h
  · rw [h]
    exact ⟨_, hrest _⟩
  · rw [h]
    exact ⟨s.link, hrest _⟩

end Sys2Proof.Machine
end

section
/-! SUPPORT. The guard, the points, the requests and the commands: what each leaves of the queue of commands
and of the agreement of guard, arming and zones. -/

namespace Sys2Proof.Machine

/-! ### Changes of the zones alone -/

/-- What a change of the zones' states leaves: all but the zones, and what the units decide. -/
structure Apart (s t : State) : Prop where
  pending : t.pending = s.pending
  clock : t.clock = s.clock
  cause : t.cause = s.cause
  link : t.link = s.link
  io : t.io = s.io

theorem Apart.trans {s t u : State} (h : Apart s t) (g : Apart t u) : Apart s u :=
  ⟨g.pending.trans h.pending, g.clock.trans h.clock, g.cause.trans h.cause, g.link.trans h.link,
    g.io.trans h.io⟩

theorem Apart.after {s t u : State} (g : Apart t u) (h : Apart s t) : Apart s u := h.trans g

theorem Line.apart {s t : State} (h : Line s t) : Apart s t :=
  ⟨h.pending, h.clock, h.cause, h.link, h.io⟩

theorem apart_setZone (s : State) (z : Zone) (st : ZoneState) : Apart s (s.setZone z st) :=
  Apart.trans (t := { s with zones := s.zones.set z { s.zones.get z with state := st } })
    ⟨rfl, rfl, rfl, rfl, rfl⟩ (decides_stopZoneTimers _ z).line.apart

/-- With the outputs armed any zone may run. -/
theorem Apart.serves {s t : State} (h : Apart s t) (harmed : s.io.armed = true) : Serves s t where
  pending := h.pending
  clock := h.clock
  cause := h.cause
  link := h.link
  guarded w :=
    { guard_reads := by rw [reads_of_io h.io, h.io]; exact w.guard_reads
      armed_closed := by rw [h.io]; exact w.armed_closed
      active_armed := fun _ _ => by rw [h.io]; exact harmed }

/-- A zone that enters a state other than RUNNING and DRAINING. -/
theorem line_enter (s : State) (z : Zone) (st : ZoneState) (h : st ≠ .running ∧ st ≠ .draining) :
    Line s (s.setZone z st) :=
  (line_setZone s z { s.zones.get z with state := st } h).trans (decides_stopZoneTimers _ z).line

/-! ### The points -/

theorem State.point_setPoint_ne (s : State) {m n : Nat} (p : Point) (h : m - 1 ≠ n - 1) :
    (s.setPoint m p).point n = s.point n := by
  simp [State.point, State.setPoint, List.getElem?_set_ne h]

theorem State.reads_setPoint_ne (s : State) {m n : Nat} (p : Point) (h : m - 1 ≠ n - 1) :
    (s.setPoint m p).reads n = s.reads n := by
  rw [State.reads, State.point_setPoint_ne s p h, State.reads]

/-- A point that is not in the table is OFF, and stays so. -/
theorem State.point_setPoint_same (s : State) (n : Nat) (p : Point) :
    (s.setPoint n p).point n = if n - 1 < s.io.points.length then p else s.point n := by
  simp only [State.point, State.setPoint, List.getElem?_set_self']
  split <;> simp_all

theorem active_setPoint (s : State) (n : Nat) (p : Point) (z : Zone) :
    (s.setPoint n p).active z = s.active z := rfl

/-- A point other than the guard's does not move the guard. -/
theorem guarded_setPoint {s : State} {n : Nat} (p : Point) (hn : n - 1 ≠ 26) (w : s.Guarded) :
    (s.setPoint n p).Guarded where
  guard_reads := by rw [State.reads_setPoint_ne s p (by omega)]; exact w.guard_reads
  armed_closed := w.armed_closed
  active_armed := w.active_armed

theorem serves_setPoint (s : State) {n : Nat} (p : Point) (hn : n - 1 ≠ 26) :
    Serves s (s.setPoint n p) :=
  ⟨rfl, rfl, rfl, rfl, guarded_setPoint p hn⟩

theorem serves_setLevel (s : State) {n : Nat} (high : Bool) (hn : n - 1 ≠ 26) :
    Serves s (s.setLevel n high) := serves_setPoint s _ hn

theorem Point.reading_of_not_input {p : Point} (h : p.mode ≠ .input) : p.reading = false := by
  simp [Point.reading, h]

/-- The level of a point that is not in INPUT mode moves no reading. -/
theorem State.reads_setLevel_of_not_input {s : State} {n : Nat} (high : Bool)
    (h : (s.point n).mode ≠ .input) : (s.setLevel n high).reads n = s.reads n := by
  rw [State.reads, State.reads, State.setLevel, State.point_setPoint_same]
  split
  · rw [Point.reading_of_not_input h]
    exact Point.reading_of_not_input h
  · rfl

/-! ### The guard -/

/-- The outputs are armed only behind a closed guard, and a zone runs only while they are armed. -/
structure State.Behind (s : State) : Prop where
  armed_closed : s.io.armed = true → s.io.guardClosed = true
  active_armed : ∀ z, s.active z = true → s.io.armed = true

theorem State.Guarded.behind {s : State} (w : s.Guarded) : s.Behind :=
  ⟨w.armed_closed, w.active_armed⟩

theorem line_tripStagingSide (s : State) : Line s s.tripStagingSide := by
  unfold State.tripStagingSide
  split
  · exact (line_unreserve s).trans (line_setSide _ _)
  · exact line_setSide s _
  · exact (line_removeEjectedCase s).trans (line_setSide _ _)
  · exact line_setSide s _

theorem line_tripCasing (s : State) : Line s s.tripCasing := by
  unfold State.tripCasing
  split
  · exact (line_setReason s _ _).trans (line_setCasing _ _)
  · exact line_setCasing s _
  all_goals exact .refl s

theorem line_tripDelivery (s : State) : Line s s.tripDelivery := by
  unfold State.tripDelivery
  split
  · exact (line_removeEjectedJacket s).trans (line_setStop _ _)
  · exact ((line_setReason s _ _).trans (line_setJacketResult _ _ _)).trans (line_setStop _ _)
  · exact line_setStop s _
  · exact line_setStop s _
  all_goals exact .refl s

theorem line_trip (s : State) : Line s.allTripped s.trip := by
  rw [State.trip_eq]
  exact (decides_bpTests _).line.after ((line_tripDelivery _).after ((line_tripPress _).after
    ((line_tripCasing _).after (line_tripStagingSide _))))

/-- Every zone is TRIPPED with its code and flag kept. -/
theorem State.allTripped_zones (s : State) (z : Zone) :
    s.allTripped.zones.get z = { s.zones.get z with state := .tripped } := by
  have hset (t : State) (x y : Zone) : (t.setZone y .tripped).zones.get x =
      if x = y then { t.zones.get y with state := .tripped } else t.zones.get x := by
    unfold State.setZone
    rw [← Zones.get_set]
    cases y with
    | a | p => rfl
    | b | c => unfold State.stopZoneTimers; dsimp only; split <;> rfl
  cases z <;> simp [State.allTripped, hset]

/-- All but the zones is that of the line disarmed. -/
theorem apart_allTripped (s : State) :
    Apart { s with io := { s.io with armed := false } } s.allTripped :=
  (((apart_setZone _ _ _).trans (apart_setZone _ _ _)).trans (apart_setZone _ _ _)).trans
    (apart_setZone _ _ _)

theorem State.allTripped_io (s : State) : s.allTripped.io = { s.io with armed := false } :=
  (apart_allTripped s).io

theorem State.allTripped_active (s : State) (z : Zone) : s.allTripped.active z = false := by
  rw [Bool.eq_false_iff, Ne, State.active_iff, State.zoneState, State.allTripped_zones]
  rintro (h | h) <;> cases h

/-- The guard taken from its point: the agreement is that of the new reading. -/
theorem guarded_refreshGuard {s : State} (w : s.Behind) : s.refreshGuard.Guarded := by
  rw [State.refreshGuard_eq]
  split
  · refine (line_trip s.takeGuard).calm.guarded ⟨?_, ?_, fun z hz => ?_⟩
    · rw [State.reads, State.point, State.allTripped_io]
      rfl
    · rw [State.allTripped_io]
      exact nofun
    · rw [State.allTripped_active] at hz
      cases hz
  · next h =>
    refine ⟨rfl, fun harmed => ?_, w.active_armed⟩
    have hclosed := w.armed_closed harmed
    show s.reads 27 = true
    simpa [hclosed] using h

theorem apart_trip (s : State) : Apart { s with io := { s.io with armed := false } } s.trip :=
  (apart_allTripped s).trans (line_trip s).apart

/-- A guard line that changes moves nothing of the clock, the queue and the link. -/
theorem serves_refreshGuard (s : State) : Serves s s.refreshGuard := by
  suffices h : s.refreshGuard.pending = s.pending ∧ s.refreshGuard.clock = s.clock ∧
      s.refreshGuard.cause = s.cause ∧ s.refreshGuard.link = s.link by
    obtain ⟨hpending, hclock, hcause, hlink⟩ := h
    exact ⟨hpending, hclock, hcause, hlink, fun w => guarded_refreshGuard w.behind⟩
  rw [State.refreshGuard_eq]
  split
  · have h := apart_trip s.takeGuard
    exact ⟨h.pending, h.clock, h.cause, h.link⟩
  · exact ⟨rfl, rfl, rfl, rfl⟩

theorem behind_setPoint {s : State} (n : Nat) (p : Point) (w : s.Guarded) : (s.setPoint n p).Behind :=
  ⟨w.armed_closed, w.active_armed⟩

/-- The line of the guard's point moved, and the guard taken from it. -/
theorem serves_guardLine (s : State) (high : Bool) :
    Serves s (if (s.point 27).mode = .input then (s.setLevel 27 high).refreshGuard
      else s.setLevel 27 high) := by
  split
  · have h := serves_refreshGuard (s.setLevel 27 high)
    exact ⟨h.pending, h.clock, h.cause, h.link, fun w => guarded_refreshGuard (behind_setPoint 27 _ w)⟩
  · next hmode =>
    refine ⟨rfl, rfl, rfl, rfl, fun w => ⟨?_, w.armed_closed, w.active_armed⟩⟩
    rw [State.reads_setLevel_of_not_input high hmode]
    exact w.guard_reads

theorem serves_risingGuard (s : State) : Serves s (s.risingInput 27 State.refreshGuard) :=
  serves_guardLine s _

theorem serves_fallingGuard (s : State) : Serves s (s.fallingInput 27 State.refreshGuard) :=
  serves_guardLine s _

theorem serves_risingInput (s : State) {n : Nat} {edge : State → State} (hn : n - 1 ≠ 26)
    (h : ∀ t, Calm t (edge t)) : Serves s (s.risingInput n edge) := by
  unfold State.risingInput
  dsimp only
  split <;> [exact (serves_setLevel s _ hn).trans (h _).serves; exact serves_setLevel s _ hn]

theorem serves_fallingInput (s : State) {n : Nat} {edge : State → State} (hn : n - 1 ≠ 26)
    (h : ∀ t, Calm t (edge t)) : Serves s (s.fallingInput n edge) := by
  unfold State.fallingInput
  dsimp only
  split <;> [exact (serves_setLevel s _ hn).trans (h _).serves; exact serves_setLevel s _ hn]

theorem calm_readingChanged (s : State) {n : Nat} (before : Bool) (hn : n ≠ 27) :
    Calm s (s.readingChanged n before) := by
  unfold State.readingChanged
  dsimp only
  split
  · exact .refl s
  · split
    · exact calm_takePhases s _
    · split <;> [exact calm_leadingEdge s _; exact (line_trailingEdge s _).calm]
    · split <;> [exact calm_onHandshake s n; exact .refl s]

/-! ### The requests -/

/-- A request answered for a zone, or refused with the state as it stands. -/
theorem serves_oneZone {h : Zone → State → State × Reply} {s : State}
    (hz : ∀ z, Serves s (h z s).1) (body : List Byte) : Serves s (oneZone h body s).1 := by
  unfold oneZone
  split
  · split <;> [exact hz _; exact .refl s]
  · exact .refl s

theorem serves_noBody {h : State → State × Reply} {s : State} (hs : Serves s (h s).1)
    (body : List Byte) : Serves s (noBody h body s).1 := by
  rw [fst_noBody]
  split <;> [exact hs; exact .refl s]

theorem serves_onSetConfig (body : List Byte) (s : State) : Serves s (onSetConfig body s).1 := by
  have hput (c : Cfg) : Serves s (s.putCfg c) := by apply serves_of_eq <;> rfl
  unfold onSetConfig
  split
  · exact .refl s
  · split
    · exact .refl s
    · split
      · exact .refl s
      · split
        · exact .refl s
        · dsimp only
          exact (hput _).trans (line_configure s _).serves

/-- New settings of a point, with the guard taken again where the point is the guard's. -/
theorem serves_applyPoint (s : State) (n : Nat) (hn : 1 ≤ n) (m : PointMode) (u : Bool)
    (pol : Polarity) : Serves s (s.applyPoint n m u pol) := by
  unfold State.applyPoint
  by_cases h27 : n = 27
  · subst h27
    have hsame (t : State) (before : Bool) : t.readingChanged 27 before =
        if t.reads 27 = before then t else t.refreshGuard := rfl
    rw [hsame]
    split
    · next hreads =>
      refine ⟨rfl, rfl, rfl, rfl, fun w => ⟨?_, w.armed_closed, w.active_armed⟩⟩
      rw [hreads]
      exact w.guard_reads
    · have h := serves_refreshGuard (s.setPoint 27 (storedPoint (s.point 27) m u pol))
      exact ⟨h.pending, h.clock, h.cause, h.link,
        fun w => guarded_refreshGuard (behind_setPoint 27 _ w)⟩
  · exact (serves_setPoint s _ (by omega)).trans (calm_readingChanged _ _ h27).serves

theorem le_of_inRange {lo hi v : Nat} (h : inRange lo hi v = true) : lo ≤ v := by
  simp only [inRange, Bool.and_eq_true, decide_eq_true_eq] at h
  exact h.1

theorem serves_onSetPoint (body : List Byte) (s : State) : Serves s (onSetPoint body s).1 := by
  unfold onSetPoint
  split
  · split
    · next hn _ _ _ =>
      split
      · exact .refl s
      · exact serves_applyPoint s _ (le_of_inRange hn) _ _ _
    · exact .refl s
  · exact .refl s

theorem line_identifyAll (s : State) (rs : List (Nat × Ident)) : Line s (s.identifyAll rs) := by
  unfold State.identifyAll
  induction rs generalizing s with
  | nil => exact .refl s
  | cons r rs ih => exact (line_identifyAs s r.1 r.2).trans (ih _)

theorem line_orders (s : State) (os : List Order) : Line s { s with orders := os } := by
  apply line_of_eq <;> rfl

theorem line_onLoadOrder (body : List Byte) (s : State) : Line s (onLoadOrder body s).1 := by
  unfold onLoadOrder
  split
  · exact .refl s
  · split
    · exact .refl s
    · split
      · exact .refl s
      · exact .refl s
      · exact ((line_orders s _).trans (line_identifyAll _ _)).trans (decides_announce _).line

theorem line_onAmendOrder (body : List Byte) (s : State) : Line s (onAmendOrder body s).1 := by
  unfold onAmendOrder
  split
  · exact .refl s
  · split
    · exact .refl s
    · split
      · exact .refl s
      · exact (line_updOrder s _ _).trans (decides_announce _).line

theorem line_onHoldOrder (body : List Byte) (s : State) : Line s (onHoldOrder body s).1 := by
  unfold onHoldOrder
  split
  · split
    · exact .refl s
    · split
      · exact (line_updOrder s _ _).trans (decides_stagingDecide _).line
      · exact .refl s
  · exact .refl s

theorem line_onResumeOrder (body : List Byte) (s : State) : Line s (onResumeOrder body s).1 := by
  unfold onResumeOrder
  split
  · split
    · exact .refl s
    · split
      · exact (line_updOrder s _ _).trans (decides_stagingDecide _).line
      · exact .refl s
  · exact .refl s

theorem line_onCloseOrder (body : List Byte) (s : State) : Line s (onCloseOrder body s).1 := by
  unfold onCloseOrder
  split
  · split
    · exact .refl s
    · split
      · exact .refl s
      · exact (line_orders s _).trans (decides_announce _).line
  · exact .refl s

theorem line_onReadOrder (body : List Byte) (s : State) : Line s (onReadOrder body s).1 := by
  unfold onReadOrder
  split
  · split
    · exact .refl s
    · split
      · split <;> exact .refl s
      · split <;> [exact .refl s; exact line_updOrder s _ _]
  · exact .refl s

theorem serves_admitSet (s : State) (a : BitVec 512) : Serves s { s with admitSet := a } := by
  apply serves_of_eq <;> rfl

theorem serves_onAdmitAdd (body : List Byte) (s : State) : Serves s (onAdmitAdd body s).1 := by
  unfold onAdmitAdd
  split
  · exact .refl s
  · split
    · exact .refl s
    · split <;> [exact serves_admitSet s _; exact .refl s]

theorem line_collect (s : State) (r : Nat) : Line s (s.collect r) := by apply line_of_eq <;> rfl

theorem line_onCollect (body : List Byte) (s : State) : Line s (onCollect body s).1 := by
  unfold onCollect
  split
  · split
    · split
      · exact .refl s
      · split
        · exact .refl s
        · split <;> [exact .refl s; exact line_collect s _]
    · exact .refl s
  · exact .refl s

theorem line_onMarkReject (body : List Byte) (s : State) : Line s (onMarkReject body s).1 := by
  unfold onMarkReject
  split
  · split
    · split
      · exact .refl s
      · split
        · exact .refl s
        · split
          · exact .refl s
          · split
            · exact .refl s
            · exact (line_setReason s _ _).trans (decides_announce _).line
    · exact .refl s
  · exact .refl s

theorem apart_enterRunning (s : State) (z : Zone) : Apart s (s.enterRunning z) := by
  have hmark (y : Belt) : Apart s ((s.setZone z .running).markHere y) :=
    (apart_setZone s z .running).trans ⟨rfl, rfl, rfl, rfl, rfl⟩
  have hstg (t : State) (u : StagingUnit) : Apart t { t with stg := u } := ⟨rfl, rfl, rfl, rfl, rfl⟩
  have hdlv (t : State) (u : DeliveryUnit) : Apart t { t with dlv := u } := ⟨rfl, rfl, rfl, rfl, rfl⟩
  cases z with
  | a => exact hmark .a
  | b =>
    exact (decides_stagingDecide _).line.apart.after ((decides_casingReleaseTest _).line.apart.after
      ((decides_casingCycleTest _).line.apart.after ((hstg _ _).after (hmark .b))))
  | p => exact (apart_setZone s .p .running).trans (decides_pressTest _).line.apart
  | c =>
    exact (decides_jacketReleaseTest _).line.apart.after ((decides_jacketDecide _).line.apart.after
      ((hdlv _ _).after (hmark .c)))

theorem apart_enterDraining (s : State) (z : Zone) : Apart s (s.enterDraining z) := by
  have hdrain := (apart_setZone s z .draining).trans (decides_drainTest _ z).line.apart
  cases z with
  | a | b => exact hdrain
  | p => exact hdrain.trans (decides_pressTest _).line.apart
  | c => exact hdrain.trans ((decides_jacketDecide _).trans (decides_jacketReleaseTest _)).line.apart

/-- A zone runs only behind a closed guard with the outputs armed. -/
theorem serves_tryRun (s : State) (z : Zone) : Serves s (s.tryRun z).1 := by
  unfold State.tryRun
  split
  · exact .refl s
  · next h =>
    split
    · exact .refl s
    · refine (apart_enterRunning s z).serves ?_
      simp only [Bool.or_eq_true, Bool.not_eq_true', not_or, Bool.not_eq_false] at h
      exact h.2

theorem serves_onZoneRun (body : List Byte) (s : State) : Serves s (onZoneRun body s).1 := by
  refine serves_oneZone (fun z => ?_) body
  split
  case h_1 | h_2 => exact serves_tryRun s z
  all_goals exact .refl s

/-- A zone that drains was RUNNING, and so the outputs were armed. -/
theorem serves_enterDraining {s : State} {z : Zone} (h : s.zoneState z = .running) :
    Serves s (s.enterDraining z) := by
  have hapart := apart_enterDraining s z
  refine ⟨hapart.pending, hapart.clock, hapart.cause, hapart.link, fun w => ?_⟩
  exact (hapart.serves (w.active_armed z ((State.active_iff s z).2 (.inl h)))).guarded w

theorem serves_onZoneStop (body : List Byte) (s : State) : Serves s (onZoneStop body s).1 := by
  refine serves_oneZone (fun z => ?_) body
  split
  case h_1 h => exact serves_enterDraining h
  all_goals exact .refl s

theorem line_halt (s : State) (z : Zone) : Line s (s.setZone z .stopped) :=
  line_enter s z _ (by decide)

theorem serves_onZoneHalt (body : List Byte) (s : State) : Serves s (onZoneHalt body s).1 := by
  refine serves_oneZone (fun z => ?_) body
  split
  case h_1 | h_2 => exact (line_halt s z).serves
  all_goals exact .refl s

theorem line_removeAll (s : State) (rs : List Nat) : Line s (s.removeAll rs) := by
  unfold State.removeAll
  induction rs generalizing s with
  | nil => exact .refl s
  | cons r rs ih => exact (line_retire s r .removed).trans (ih _)

theorem calm_emptyZone (s : State) (z : Zone) : Calm s (s.emptyZone z) := by
  cases z with
  | p => exact .refl s
  | a | b | c => apply calm_of_eq <;> rfl

theorem line_closeWatches (s : State) (z : Zone) : Line s (s.closeWatches z) := by
  cases z with
  | a => exact line_setOpened s _ _
  | p => exact .refl s
  | b | c => exact (line_setOpened s _ _).trans (line_setOpened _ _ _)

theorem calm_purge (s : State) (z : Zone) : Calm s (s.purge z) := by
  unfold State.purge
  exact (((line_removeAll s _).calm.trans (calm_emptyZone _ z)).trans
    (line_closeWatches _ z).calm).trans (line_follow _).calm

theorem serves_onPurge (body : List Byte) (s : State) : Serves s (onPurge body s).1 := by
  refine serves_oneZone (fun z => ?_) body
  split
  · dsimp only
    exact (calm_purge s z).serves
  · exact .refl s

theorem ZoneCtl.clear_state (k : ZoneCtl) (h : k.state = .faulted ∨ k.state = .tripped) :
    k.clear.state ≠ .running ∧ k.clear.state ≠ .draining := by
  rcases h with h | h <;> simp [ZoneCtl.clear, h]

/-- Only a FAULTED or TRIPPED zone is cleared. -/
theorem State.state_of_cleared {s : State} {z : Zone} (h : s.clearAnswer z = .cleared) :
    s.zoneState z = .faulted ∨ s.zoneState z = .tripped := by
  unfold State.clearAnswer at h
  split at h
  case h_1 hz => exact .inl hz
  case h_2 hz _ => exact .inr hz
  all_goals cases h

theorem line_clearZone (s : State) (z : Zone) : Line s (s.clearZone z) := by
  unfold State.clearZone
  split
  · next h => exact line_setZone s z _ (ZoneCtl.clear_state _ (State.state_of_cleared h))
  · exact .refl s

theorem line_clearZones (s : State) (zs : List Zone) : Line s (zs.foldl State.clearZone s) := by
  induction zs generalizing s with
  | nil => exact .refl s
  | cons z zs ih => exact (line_clearZone s z).trans (ih _)

theorem line_onClearFaults (body : List Byte) (s : State) : Line s (onClearFaults body s).1 := by
  unfold onClearFaults
  split
  · exact .refl s
  · split
    · exact .refl s
    · split
      · exact line_clearZones s _
      · exact .refl s

/-- The outputs armed behind a closed guard. -/
theorem serves_rearm {s : State} (h : s.io.guardClosed = true) : Serves s s.rearm := by
  unfold State.rearm
  refine (((decides_jacketDecide _).trans (decides_jacketReleaseTest _)).trans
    (decides_pressTest _)).serves.after ⟨rfl, rfl, rfl, rfl, fun w => ?_⟩
  exact ⟨w.guard_reads, fun _ => h, fun _ _ => rfl⟩

theorem serves_onRearmOutputs (body : List Byte) (s : State) :
    Serves s (onRearmOutputs body s).1 := by
  refine serves_noBody ?_ body
  split
  · exact .refl s
  · next h =>
    split
    · exact .refl s
    · exact serves_rearm (by simpa using h)

theorem ZoneCtl.trackingReset_state (k : ZoneCtl) (x : ZoneState) (hx : x ≠ .stopped)
    (h : k.trackingReset.state = x) : k.state = x := by
  unfold ZoneCtl.trackingReset at h
  split at h
  · exact absurd h.symm hx
  · exact h

theorem calm_trackingReset (s : State) : Calm s s.trackingReset := by
  have h := line_removeAll s s.liveSlots
  refine h.calm.trans ⟨rfl, rfl, rfl, rfl, rfl, rfl, rfl, fun z hz => ?_⟩
  have hget : s.trackingReset.zones.get z = ((s.removeAll s.liveSlots).zones.get z).trackingReset := by
    cases z <;> rfl
  rw [State.active_iff, State.zoneState] at hz ⊢
  rw [hget] at hz
  exact hz.imp (ZoneCtl.trackingReset_state _ _ (by decide))
    (ZoneCtl.trackingReset_state _ _ (by decide))

theorem serves_onTrackingReset (body : List Byte) (s : State) :
    Serves s (onTrackingReset body s).1 := by
  refine serves_noBody ?_ body
  split
  · dsimp only
    exact (calm_trackingReset s).serves
  · exact .refl s

theorem serves_onAdmitClear (body : List Byte) (s : State) : Serves s (onAdmitClear body s).1 :=
  serves_noBody (serves_admitSet s _) body

theorem serves_otherHandlers (body : List Byte) (s : State) :
    ∀ h ∈ otherHandlers, Serves s (h body s).1 := by
  have hread {h : Handler} (hh : (h body s).1 = s) : Serves s (h body s).1 := by
    rw [hh]; exact .refl s
  simp only [otherHandlers, List.forall_mem_cons]
  exact ⟨hread (fst_onStatus body s), hread (fst_onReadConfig body s), serves_onSetConfig body s,
    serves_onSetPoint body s, hread (fst_onReadPoints body s), (line_onLoadOrder body s).serves,
    (line_onAmendOrder body s).serves, (line_onHoldOrder body s).serves,
    (line_onResumeOrder body s).serves, (line_onCloseOrder body s).serves,
    (line_onReadOrder body s).serves, hread (fst_onReadCopyMap body s),
    serves_onAdmitAdd body s, serves_onAdmitClear body s, hread (fst_onReadBook body s),
    hread (fst_onFindBook body s), hread (fst_onListOutcomes body s), (line_onCollect body s).serves,
    (line_onMarkReject body s).serves, serves_onZoneRun body s, serves_onZoneStop body s,
    serves_onZoneHalt body s, serves_onPurge body s, (line_onClearFaults body s).serves,
    serves_onRearmOutputs body s, serves_onTrackingReset body s, hread (fst_onUnknown body s), by simp⟩

end Sys2Proof.Machine
end

section
/-! SUPPORT. Every command answers a next state, leaves the queue of commands, and keeps the agreement of
guard, arming and zones; every request is answered with one frame. The proofs of the statements about the
guard, the queue and the answers. -/

namespace Sys2Proof.Machine

/-! ### The link -/

theorem runs_link (s : State) (l : Link) : Runs s { s with link := l } := by
  apply runs_of_eq <;> rfl

theorem serves_handlerOf (code : Byte) (body : List Byte) (s : State) (h : code ≠ 0x3F#8) :
    Serves s (handlerOf code body s).1 := by
  rcases handlerOf_cases code with ⟨hcode, -⟩ | hmem
  · exact absurd hcode h
  · exact serves_otherHandlers body s _ hmem

theorem fst_onRestart (body : List Byte) (s : State) :
    (onRestart body s).1 =
      if body.isEmpty then { s with link := { s.link with restartDue := true } } else s := by
  rw [onRestart, fst_noBody]

theorem runs_onRestart (body : List Byte) (s : State) : Runs s (onRestart body s).1 := by
  rw [fst_onRestart]
  split <;> [exact runs_link s _; exact .refl s]

theorem runs_handlerOf (code : Byte) (body : List Byte) (s : State) :
    Runs s (handlerOf code body s).1 := by
  rcases handlerOf_cases code with ⟨-, h⟩ | h
  · rw [h]
    exact runs_onRestart body s
  · exact (serves_otherHandlers body s _ h).runs

theorem runs_takeRequest {code : Byte} {h : Handler} {body : List Byte} {s : State}
    (hh : Runs s (h body s).1) : Runs s (s.takeRequest code h body) := by
  unfold State.takeRequest
  split
  · exact .refl s
  · exact hh.trans (runs_link _ _)

theorem runs_takeFrame (s : State) : Runs s s.takeFrame := by
  unfold State.takeFrame
  split
  · exact runs_takeRequest (runs_handlerOf _ _ s)
  · exact runs_link s _

theorem runs_linkByte (s : State) (b : Byte) : Runs s (s.linkByte b) := by
  unfold State.linkByte
  dsimp only
  split
  · split <;> [exact runs_link s _; exact .refl s]
  · exact runs_link s _
  · exact runs_link s _
  · split
    · exact (runs_link s _).trans (runs_takeFrame _)
    · exact runs_link s _
  · exact .refl s

/-- Power-on takes the guard from its point, disarms the outputs and stops every zone. -/
theorem guarded_powerOn (s : State) (c : RestartCause) : (s.powerOn c).Guarded where
  guard_reads := rfl
  armed_closed := nofun
  active_armed z hz := by cases z <;> cases hz

theorem runs_powerOn (s : State) (c : RestartCause) : Runs s (s.powerOn c) :=
  ⟨rfl, fun _ => guarded_powerOn s c⟩

theorem runs_responseSent (s : State) : Runs s s.responseSent := by
  unfold State.responseSent
  split
  · split <;> [exact runs_powerOn s _; exact runs_link s _]
  all_goals exact .refl s

/-! ### Time -/

theorem runs_reach (s : State) (t : Timer) : Runs s (s.reach t) := by
  unfold State.reach
  split
  · exact .refl s
  · apply runs_of_eq <;> rfl

theorem runs_expire (s : State) (o : Option Timer) {f : State → State} (h : ∀ t, Runs t (f t)) :
    Runs s (s.expire o f) := by
  unfold State.expire
  split <;> [exact (runs_reach s _).trans (h _); exact .refl s]

theorem runs_tick (s : State) : Runs s s.tick := by
  obtain ⟨l, h⟩ := calm_tick s
  refine Runs.trans ?_ h.runs
  apply runs_of_eq <;> rfl

/-! ### The commands -/

theorem runs_readerCharacter (s : State) (p : Port) (c : Byte) (e : Bool) :
    Runs s (s.readerCharacter p c e) := by
  have hadd (c : Byte) : Runs s (s.addCharacter p c) := (calm_setText s p _).runs
  have hend : Runs s (s.endText p) := by
    unfold State.endText
    split
    · exact .refl s
    · exact ((calm_setText s p _).trans (calm_deliverScan _ p _)).runs
  unfold State.readerCharacter
  split
  · exact hadd _
  · split
    · exact hend
    · split <;> [exact .refl s; exact hadd _]

/-- INDEX_COMMAND, where it brings the clock forward and where it does not. -/
theorem exec_indexCommand_cases (s : State) : ∃ t, exec .indexCommand s = .next t ∧ Runs s t := by
  show ∃ t, execIndexCommand s = .next t ∧ Runs s t
  unfold execIndexCommand
  split
  · split
    · exact ⟨_, rfl, (runs_reach s _).trans (decides_pressTest _).runs⟩
    · exact ⟨_, rfl, (decides_pressTest s).runs⟩
  · exact ⟨_, rfl, .refl s⟩

theorem eyePoint_ne_guard (e : Eye) : eyePoint e - 1 ≠ 26 := by cases e <;> decide

theorem runs_eyeBlocked (s : State) (e : Eye) : Runs s (s.eyeBlocked e) :=
  (serves_risingInput s (eyePoint_ne_guard e) (calm_leadingEdge · e)).runs

theorem runs_eyeClears (s : State) (e : Eye) : Runs s (s.eyeClears e) :=
  (serves_fallingInput s (eyePoint_ne_guard e) fun t => (line_trailingEdge t e).calm).runs

theorem phasePoints_ne_guard (z : Belt) : (phasePoints z).1 - 1 ≠ 26 ∧ (phasePoints z).2 - 1 ≠ 26 := by
  cases z <;> decide

theorem runs_encoderPhaseChange (s : State) (z : Belt) (x y : Bool) :
    Runs s (((s.setLevel (phasePoints z).1 x).setLevel (phasePoints z).2 y).takePhases z) :=
  (((serves_setLevel s x (phasePoints_ne_guard z).1).trans
    (serves_setLevel _ y (phasePoints_ne_guard z).2)).trans (calm_takePhases _ z).serves).runs

/-- A handshake input that becomes active. -/
theorem runs_handshake (s : State) {n : Nat} {edge : State → State} (hn : n - 1 ≠ 26)
    (h : ∀ t, Calm t (edge t)) : Runs s (s.risingInput n edge) := (serves_risingInput s hn h).runs

/-- A request that is taken, by its code. -/
theorem runs_request (code : Byte) (body : List Byte) (s : State) :
    Runs s (s.takeRequest code (handlerOf code) body) := runs_takeRequest (runs_handlerOf code body s)

/-- Every command answers a next state. -/
theorem exec_runs (c : Instr) (s : State) : ∃ t, exec c s = .next t ∧ Runs s t := by
  cases c with
  | indexCommand => exact exec_indexCommand_cases s
  | _ => ?_
  all_goals refine ⟨_, rfl, ?_⟩
  case powerOn => exact runs_powerOn s _
  case linkByteReceived b => exact runs_linkByte s b
  case linkGapTimeout => exact runs_expire s _ fun t => runs_link t _
  case responseSent => exact runs_responseSent s
  case unknownRequest code body => exact runs_takeRequest (.refl s)
  case status body => exact runs_request 0x01#8 body s
  case readConfig body => exact runs_request 0x02#8 body s
  case setConfig body => exact runs_request 0x03#8 body s
  case setPoint body => exact runs_request 0x04#8 body s
  case readPoints body => exact runs_request 0x05#8 body s
  case loadOrder body => exact runs_request 0x10#8 body s
  case amendOrder body => exact runs_request 0x11#8 body s
  case holdOrder body => exact runs_request 0x12#8 body s
  case resumeOrder body => exact runs_request 0x13#8 body s
  case closeOrder body => exact runs_request 0x14#8 body s
  case readOrder body => exact runs_request 0x15#8 body s
  case readCopyMap body => exact runs_request 0x16#8 body s
  case admitAdd body => exact runs_request 0x18#8 body s
  case admitClear body => exact runs_request 0x19#8 body s
  case readBook body => exact runs_request 0x20#8 body s
  case findBook body => exact runs_request 0x21#8 body s
  case listOutcomes body => exact runs_request 0x22#8 body s
  case collect body => exact runs_request 0x23#8 body s
  case markReject body => exact runs_request 0x24#8 body s
  case zoneRun body => exact runs_request 0x30#8 body s
  case zoneStop body => exact runs_request 0x31#8 body s
  case zoneHalt body => exact runs_request 0x32#8 body s
  case purge body => exact runs_request 0x33#8 body s
  case clearFaults body => exact runs_request 0x34#8 body s
  case rearmOutputs body => exact runs_request 0x35#8 body s
  case trackingReset body => exact runs_request 0x36#8 body s
  case restart body => exact runs_request 0x3F#8 body s
  case readerCharacter p c e => exact runs_readerCharacter s p c e
  case readerGapTimeout p => exact runs_expire s _ fun t => (calm_discardText t p).runs
  case gaugeReading v => apply runs_of_eq <;> rfl
  case encoderPhaseChange z x y => exact runs_encoderPhaseChange s z x y
  case backTravel z => exact ((line_backTravelTest s z).trans (line_follow _)).runs
  case samplePoint => exact ((line_sampleTest s).trans (line_follow _)).runs
  case spanOverrun => exact ((line_spanTest s).trans (line_follow _)).runs
  case readWindowClose => exact ((line_windowTest s).trans (line_follow _)).runs
  case watchWindowOpen w => exact ((line_openTest s w).trans (line_follow _)).runs
  case headMissing w => exact ((line_missingTest s w).trans (line_follow _)).runs
  case gaugeTrailingEdge | eyeTrailingEdge => exact runs_eyeClears s _
  case gaugeLeadingEdge | watchPointArrival | releaseEyeEdge | rejectEyeEdge | casingExitEyeEdge |
      unloadEyeEdge | jacketExitEyeEdge =>
    exact runs_eyeBlocked s _
  case caseFed => exact runs_handshake s (by decide) calm_onCaseFed
  case caseEjected => exact runs_handshake s (by decide) fun t => (line_onCaseEjected t).calm
  case casingDone => exact runs_handshake s (by decide) fun t => (line_onCasingDone t).calm
  case casingFault => exact runs_handshake s (by decide) fun t => (line_onCasingFault t).calm
  case indexDone => exact runs_handshake s (by decide) fun t => (line_onIndexDone t).calm
  case jacketFed => exact runs_handshake s (by decide) calm_onJacketFed
  case jacketEjected => exact runs_handshake s (by decide) fun t => (line_onJacketEjected t).calm
  case jacketDone => exact runs_handshake s (by decide) fun t => (line_onJacketDone t).calm
  case jacketFault => exact runs_handshake s (by decide) fun t => (line_onJacketFault t).calm
  case guardOpens => exact (serves_fallingGuard s).runs
  case guardCloses => exact (serves_risingGuard s).runs
  case drainEnd z => exact (decides_drainTest s z).runs
  case stagingHeadDecision => exact (decides_stagingDecide s).runs
  case jacketStopDecision => exact (decides_jacketDecide s).runs
  case casingCycleBegin => exact (decides_casingCycleTest s).runs
  case casingReleaseCommand => exact (decides_casingReleaseTest s).runs
  case jacketReleaseCommand => exact (decides_jacketReleaseTest s).runs
  case stagingReleaseTimeout =>
    exact runs_expire s _ fun t => (line_onStagingReleaseTimeout t).runs
  case casingReleaseTimeout => exact runs_expire s _ fun t => (line_onCasingReleaseTimeout t).runs
  case caseEjectTimeout => exact runs_expire s _ fun t => (line_onCaseEjectTimeout t).runs
  case casingTimeout => exact runs_expire s _ fun t => (line_onCasingTimeout t).runs
  case earlyHoldExpiry => exact runs_expire s _ fun t => (line_onEarlyHoldExpiry t).runs
  case caseWaitExpiry => exact runs_expire s _ fun t => (line_onCaseWaitExpiry t).runs
  case indexTimeout => exact runs_expire s _ fun t => (line_onIndexTimeout t).runs
  case unloadGraceExpiry => exact runs_expire s _ fun t => (line_onUnloadGraceExpiry t).runs
  case jacketEjectTimeout => exact runs_expire s _ fun t => (line_onJacketEjectTimeout t).runs
  case jacketCycleTimeout => exact runs_expire s _ fun t => (line_onJacketCycleTimeout t).runs
  case jacketReleaseTimeout => exact runs_expire s _ fun t => (line_onJacketReleaseTimeout t).runs
  case jacketWaitExpiry => exact runs_expire s _ fun t => (line_onJacketWaitExpiry t).runs
  case speedPeriod => exact runs_expire s _ fun t => (calm_onSpeedPeriod t).runs

theorem guarded_step {s t : State} (h : step s = .next t) (w : s.Guarded) : t.Guarded := by
  rcases step_cases h with ⟨-, rfl⟩ | ⟨c, rest, -, hexec⟩
  · exact (runs_tick s).guarded w
  · obtain ⟨u, hu, hruns⟩ := exec_runs c { s with pending := rest }
    obtain rfl : u = t := Host.Outcome.next.inj (hu.symm.trans hexec)
    exact hruns.guarded { w with }

/-- Settles O57: every command and the tick keep the agreement. -/
theorem stepsKeepTheGuard : Obligations.StepsKeepTheGuard := fun _ _ w h => guarded_step h w

/-- Settles O3: `exec_runs`, command by command. -/
theorem commandsLeaveTheQueue : Obligations.CommandsLeaveTheQueue := by
  intro c s
  obtain ⟨t, ht, hruns⟩ := exec_runs c s
  exact ⟨t, ht, hruns.pending⟩

/-! ### Answers -/

/-- A code that is in no table has no handler of its own. -/
theorem handlerOf_of_unknown {code : Byte} (h : code ∉ requestCodes) : handlerOf code = onUnknown := by
  have hcode {k : Nat} (hk : code.toNat = k) (hmem : BitVec.ofNat 8 k ∈ requestCodes) : False :=
    h (by rwa [← hk, BitVec.ofNat_toNat, BitVec.setWidth_eq] at hmem)
  unfold handlerOf
  split
  case h_28 => rfl
  all_goals exact (hcode (by assumption) (by decide)).elim

theorem requestOf_of_unknown {code : Byte} (body : List Byte) (h : code ∉ requestCodes) :
    requestOf code body = .unknownRequest code body := by
  simp only [requestCodes, List.mem_cons, not_or] at h
  simp [requestOf, h]

/-- The request that a code of the table names is that of the code's handler. -/
theorem exec_requestOf_known (body : List Byte) (s : State) : ∀ code ∈ requestCodes,
    exec (requestOf code body) s = .next (s.takeRequest code (handlerOf code) body) := by
  simp only [requestCodes, List.forall_mem_cons]
  exact ⟨rfl, rfl, rfl, rfl, rfl, rfl, rfl, rfl, rfl, rfl, rfl, rfl, rfl, rfl, rfl, rfl, rfl, rfl,
    rfl, rfl, rfl, rfl, rfl, rfl, rfl, rfl, rfl, nofun⟩

/-- The request that a code names is that of the code's handler. -/
theorem exec_requestOf (code : Byte) (body : List Byte) (s : State) :
    exec (requestOf code body) s = .next (s.takeRequest code (handlerOf code) body) := by
  by_cases h : code ∈ requestCodes
  · exact exec_requestOf_known body s code h
  · rw [requestOf_of_unknown body h, handlerOf_of_unknown h]
    rfl

theorem State.takeRequest_open {s : State} (code : Byte) (h : Handler) (body : List Byte)
    (hrx : s.link.rx ≠ .answering) :
    s.takeRequest code h body = (h body s).1.respond code (h body s).2 := if_neg hrx

theorem State.takeRequest_answering {s : State} (code : Byte) (h : Handler) (body : List Byte)
    (hrx : s.link.rx = .answering) : s.takeRequest code h body = s := if_pos hrx

/-- What a handler leaves of the link, the clock and the queue: all but RESTART's mark. -/
theorem handlerOf_leaves (code : Byte) (body : List Byte) (s : State) :
    ∃ due, (handlerOf code body s).1.link = { s.link with restartDue := due } ∧
      (code ≠ 0x3F#8 → due = s.link.restartDue) ∧ (handlerOf code body s).1.clock = s.clock ∧
      (handlerOf code body s).1.pending = s.pending ∧ (handlerOf code body s).1.cause = s.cause := by
  rcases handlerOf_cases code with ⟨hcode, h⟩ | h
  · rw [h, fst_onRestart]
    split
    · exact ⟨true, rfl, fun hne => absurd hcode hne, rfl, rfl, rfl⟩
    · exact ⟨_, rfl, fun _ => rfl, rfl, rfl, rfl⟩
  · have hserves := serves_otherHandlers body s _ h
    exact ⟨_, hserves.link, fun _ => rfl, hserves.clock, hserves.pending, hserves.cause⟩

/-- Settles O10: the handlers leave the link, but for RESTART's mark, and the answer is framed on it. -/
theorem requestsAreAnswered : Obligations.RequestsAreAnswered := by
  refine ⟨fun code body s hrx => ?_, fun code body s hrx => ?_⟩
  · obtain ⟨due, hlink, hdue, hclock, hpending, hcause⟩ := handlerOf_leaves code body s
    have hexec := exec_requestOf code body s
    rw [State.takeRequest_open code _ body hrx] at hexec
    refine ⟨_, _, _, hexec, rfl, rfl, ?_, ?_, ?_, fun hne => ?_, hclock, hpending, hcause⟩
    · show (handlerOf code body s).1.link.draws + 1 = _
      rw [hlink]
    · show (handlerOf code body s).1.link.buffer = _
      rw [hlink]
    · show (handlerOf code body s).1.link.last = _
      rw [hlink]
    · show (handlerOf code body s).1.link.restartDue = _
      rw [hlink]
      exact hdue hne
  · rw [exec_requestOf, State.takeRequest_answering code _ body hrx]

end Sys2Proof.Machine
end

section
/-! SUPPORT. Reset, power-on, the supervisor link and its frames, the lines of points that are not in INPUT
mode, and the speed of the belts; the proofs of the statements about them. -/

namespace Sys2Proof.Machine

/-! ### The queue and reset -/

/-- Settles O1: the front of a queue that is not empty. -/
theorem stepRunsFrontCommand : Obligations.StepRunsFrontCommand := fun _ _ _ => rfl

theorem reset_guarded : State.reset.Guarded where
  guard_reads := by decide
  armed_closed := nofun
  active_armed z hz := by cases z <;> cases hz

/-- The points given by their numbers, counted from 0. -/
theorem State.point_of_range {s : State} {f : Nat → Point} (h : s.io.points = (List.range 48).map f)
    {n : Nat} (hn : n - 1 < 48) : s.point n = f (n - 1) := by
  rw [State.point, h, List.getElem?_map, List.getElem?_range hn]
  rfl

/-- No point is an output at power-on. -/
theorem Point.atPowerOn_mode (n : Nat) (high : Bool) :
    ¬((Point.atPowerOn n high).mode = .sink ∨ (Point.atPowerOn n high).mode = .source) := by
  unfold Point.atPowerOn
  split <;> simp

theorem reset_driven {n : Nat} (hn : n < 49) : State.reset.driven n = false := by
  have hpoint := State.point_of_range (s := State.reset)
    (f := fun i => Point.atPowerOn (i + 1) false) rfl (n := n) (by omega)
  rw [State.driven, hpoint, decide_eq_false (Point.atPowerOn_mode _ _), Bool.false_and, Bool.false_and]

/-- Settles O4: the empty line of `meets_of_powerOn`, with every zone STOPPED. -/
theorem resetState : Obligations.ResetState := by
  have hmeets := meets_of_powerOn (t := State.reset) rfl rfl rfl rfl rfl rfl
  refine ⟨⟨rfl, rfl, rfl, rfl, rfl, rfl, rfl, rfl, rfl, rfl, rfl, rfl, rfl, rfl, rfl, rfl, rfl, rfl, rfl,
    rfl, rfl, rfl, rfl, rfl, rfl, ?_, ?_, rfl, by decide, fun n hn => reset_driven (List.mem_range.1 hn)⟩, reset_guarded, hmeets⟩
  · intro z; cases z <;> rfl
  · intro z; cases z <;> exact ⟨rfl, rfl, rfl, rfl, rfl⟩

/-! ### Power-on -/

theorem State.powerOn_point (s : State) (c : RestartCause) {n : Nat} (h1 : 1 ≤ n) (h48 : n ≤ 48) :
    (s.powerOn c).point n = Point.atPowerOn n (s.point n).high := by
  have hhigh : (s.io.points[n - 1]?.map (·.high) == some true) = (s.point n).high := by
    rw [State.point]
    cases s.io.points[n - 1]? with
    | none => rfl
    | some p => cases hp : p.high <;> simp [hp]
  rw [State.point_of_range (s := s.powerOn c) (f := fun i =>
    Point.atPowerOn (i + 1) ((s.io.points[i]?).map (·.high) == some true)) rfl (by omega), hhigh, Nat.sub_add_cancel h1]

/-- Settles O5: each block of `State.powerOn`, and its points by number. -/
theorem powerOnCommand : Obligations.PowerOnCommand := by
  intro s
  refine ⟨s.powerOn .powerOn, rfl, rfl, rfl, rfl, rfl, rfl, rfl, rfl, rfl, rfl, rfl, rfl, rfl, rfl, rfl,
    rfl, rfl, fun n => s.powerOn_point _, fun z => ?_, rfl, rfl, rfl⟩
  cases z <;> rfl

/-- Power-on at another cause differs in the cause. -/
theorem State.powerOn_cause (s : State) (c d : RestartCause) :
    s.powerOn c = { s.powerOn d with cause := c } := rfl

/-- Settles O7: the handler marks the restart, and RESPONSE_SENT splits on the mark. -/
theorem restartFollowsItsResponse : Obligations.RestartFollowsItsResponse := by
  intro s
  refine ⟨fun hrx => ?_, fun hrx hdue => ⟨_, exec_powerOn s, ?_⟩, fun hrx hdue => ?_, fun hrx => ?_⟩
  · show Host.Outcome.next (s.takeRequest 0x3F#8 onRestart []) = _
    rw [State.takeRequest_open _ _ _ hrx]
    rfl
  · rw [exec_responseSent_restart hrx hdue]
    rfl
  · show Host.Outcome.next s.responseSent = _
    simp [State.responseSent, hrx, hdue]
  · show Host.Outcome.next s.responseSent = _
    unfold State.responseSent
    split
    · contradiction
    all_goals rfl

/-! ### The receive table -/

/-- A frame in reception has its gap timer running. -/
theorem State.linkGapTimer_gathering {s : State}
    (h : s.link.rx = .length ∨ ∃ l, s.link.rx = .body l ∨ s.link.rx = .check l) :
    s.linkGapTimer = some ⟨s.link.last, 20⟩ := by
  obtain h | ⟨l, h | h⟩ := h <;> simp [State.linkGapTimer, RxState.gathering, h]

/-- What a clock brought forward leaves. -/
theorem State.reach_eq (s : State) (t : Timer) : s.reach t = { s with clock := (s.reach t).clock } := by
  unfold State.reach
  split <;> rfl

theorem checkGood_iff (l : Nat) (buffer : List Byte) (b : Byte) :
    checkGood l buffer b = true ↔ BitVec.ofNat 8 l + byteSum buffer + b = 0#8 := by
  simp [checkGood]

/-- Settles O8: LINK_BYTE_RECEIVED by the receive state it finds, row by row. -/
theorem linkReceiveTable : Obligations.LinkReceiveTable := by
  intro b s
  have hexec : exec (.linkByteReceived b) s = .next (s.linkByte b) := rfl
  refine ⟨fun hrx => ?_, fun hrx => ?_, fun l hrx => ?_, fun l code body hrx hbuf hsum => ?_,
    fun l hrx hsum => ?_, fun hrx => ?_, fun hrx => ?_⟩
  · rw [hexec, State.linkByte, hrx]
  · rw [hexec, State.linkByte, hrx]
    rfl
  · rw [hexec, State.linkByte, hrx]
    simp
  · rw [hexec, State.linkByte, hrx]
    simp only [(checkGood_iff l s.link.buffer b).2 hsum, if_true]
    rw [exec_requestOf, State.takeFrame, hbuf]
  · rw [hexec, State.linkByte, hrx]
    simp only [mt (checkGood_iff l s.link.buffer b).1 hsum]
    rfl
  · rw [hexec, State.linkByte, hrx]
  · show Host.Outcome.next (s.expire s.linkGapTimer State.discardFrame) = _
    rw [State.linkGapTimer_gathering hrx]
    show Host.Outcome.next (s.reach _).discardFrame = _
    rw [State.reach_eq]
    rfl

/-! ### Frames and refusals -/

theorem State.respond_refuse (s : State) (code : Byte) (st : Status) :
    s.respond code (refuse st) = { s with link := { s.link with
      rx := .answering, response := responseFrame code st [], draws := s.link.draws + 1 } } := rfl

theorem noBody_badLength {h : State → State × Reply} {body : List Byte} (s : State)
    (hlen : body.length ≠ 0) : noBody h body s = (s, refuse .badLength) := by
  have hne : body.isEmpty = false := by cases body <;> simp at hlen ⊢
  rw [noBody, hne]
  rfl

/-- A body of another length is cut into no fields. -/
theorem splitFields_none {ws : List Nat} {body : List Byte} (h : body.length ≠ ws.sum) :
    splitFields ws body = none :=
  Option.eq_none_iff_forall_ne_some.2 fun vs hvs => h (splitFields_length ws body vs hvs)

theorem oneZone_badLength {h : Zone → State → State × Reply} {body : List Byte} (s : State)
    (hlen : body.length ≠ 1) : oneZone h body s = (s, refuse .badLength) := by
  rw [oneZone, splitFields_none hlen]
  rfl

/-! A body that is not cut into the fields of its layout. -/

section BadLength

variable {body : List Byte} {s : State}

theorem onSetConfig_badLength (h : body.length ≠ 78) : onSetConfig body s = (s, refuse .badLength) := by
  rw [onSetConfig, splitFields_none h]
  rfl

theorem onSetPoint_badLength (h : body.length ≠ 4) : onSetPoint body s = (s, refuse .badLength) := by
  rw [onSetPoint, splitFields_none h]
  rfl

theorem onReadPoints_badLength (h : body.length ≠ 1) : onReadPoints body s = (s, refuse .badLength) := by
  rw [onReadPoints, splitFields_none h]
  rfl

theorem onLoadOrder_badLength (h : body.length ≠ 24) : onLoadOrder body s = (s, refuse .badLength) := by
  rw [onLoadOrder, splitFields_none h]
  rfl

theorem onAmendOrder_badLength (h : body.length ≠ 16) : onAmendOrder body s = (s, refuse .badLength) := by
  rw [onAmendOrder, splitFields_none h]
  rfl

theorem onHoldOrder_badLength (h : body.length ≠ 4) : onHoldOrder body s = (s, refuse .badLength) := by
  rw [onHoldOrder, splitFields_none h]
  rfl

theorem onResumeOrder_badLength (h : body.length ≠ 4) : onResumeOrder body s = (s, refuse .badLength) := by
  rw [onResumeOrder, splitFields_none h]
  rfl

theorem onCloseOrder_badLength (h : body.length ≠ 4) : onCloseOrder body s = (s, refuse .badLength) := by
  rw [onCloseOrder, splitFields_none h]
  rfl

theorem onReadOrder_badLength (h : body.length ≠ 5) : onReadOrder body s = (s, refuse .badLength) := by
  rw [onReadOrder, splitFields_none h]
  rfl

theorem onReadCopyMap_badLength (h : body.length ≠ 7) : onReadCopyMap body s = (s, refuse .badLength) := by
  rw [onReadCopyMap, splitFields_none h]
  rfl

theorem onReadBook_badLength (h : body.length ≠ 1) : onReadBook body s = (s, refuse .badLength) := by
  rw [onReadBook, splitFields_none h]
  rfl

theorem onCollect_badLength (h : body.length ≠ 5) : onCollect body s = (s, refuse .badLength) := by
  rw [onCollect, splitFields_none h]
  rfl

theorem onMarkReject_badLength (h : body.length ≠ 5) : onMarkReject body s = (s, refuse .badLength) := by
  rw [onMarkReject, splitFields_none h]
  rfl

end BadLength

/-- A request whose body has not the length of its layout is refused. -/
theorem handlerOf_badLength (body : List Byte) (s : State) : ∀ p ∈ bodyLengths, body.length ≠ p.2 →
    handlerOf p.1 body s = (s, refuse .badLength) := by
  have hempty {f : Handler} {h : State → State × Reply} (hf : f = noBody h) (hlen : body.length ≠ 0) :
      f body s = (s, refuse .badLength) := by rw [hf, noBody_badLength s hlen]
  have hzone {f : Handler} {h : Zone → State → State × Reply} (hf : f = oneZone h)
      (hlen : body.length ≠ 1) : f body s = (s, refuse .badLength) := by
    rw [hf, oneZone_badLength s hlen]
  simp only [bodyLengths, List.forall_mem_cons]
  refine ⟨hempty (f := onStatus) rfl, hempty (f := onReadConfig) rfl, onSetConfig_badLength,
    onSetPoint_badLength, onReadPoints_badLength, onLoadOrder_badLength, onAmendOrder_badLength,
    onHoldOrder_badLength, onResumeOrder_badLength, onCloseOrder_badLength, onReadOrder_badLength,
    onReadCopyMap_badLength, hempty (f := onAdmitClear) rfl, onReadBook_badLength,
    hempty (f := onListOutcomes) rfl, onCollect_badLength, onMarkReject_badLength,
    hzone (f := onZoneRun) rfl, hzone (f := onZoneStop) rfl, hzone (f := onZoneHalt) rfl,
    hzone (f := onPurge) rfl, hempty (f := onRearmOutputs) rfl, hempty (f := onTrackingReset) rfl,
    hempty (f := onRestart) rfl, nofun⟩

theorem requestFrame_eq (code : Byte) (body : List Byte) : requestFrame code body =
    0xA5#8 :: ((BitVec.ofNat 8 (body.length + 1) :: code :: body) ++
      [checkByte (BitVec.ofNat 8 (body.length + 1) :: code :: body)]) := rfl

/-- Settles O11: the frames by their definitions and `byteSum_check`, the refusals by the handlers. -/
theorem framesAndRefusals : Obligations.FramesAndRefusals := by
  have hcounted (l : List Byte) (b : Byte) : (b :: (l ++ [checkByte l])).tail.dropLast = l := by simp
  refine ⟨fun code st body => ⟨?_, byteSum_check _, ?_, ?_⟩, fun code body s hrx =>
    ⟨fun n hmem hlen => ?_, fun _ => ?_⟩⟩
  · rw [responseFrame, hcounted]
    rfl
  · rw [requestFrame_eq, hcounted]
    rfl
  · rw [requestFrame_eq]
    exact byteSum_check _
  · rw [exec_requestOf, State.takeRequest_open _ _ _ hrx, handlerOf_badLength body s _ hmem hlen]
    rfl
  · show Host.Outcome.next (s.takeRequest code onUnknown body) = _
    rw [State.takeRequest_open _ _ _ hrx]
    rfl

/-! ### Lines out of INPUT mode -/

theorem State.risingInput_of_not_input {s : State} {n : Nat} (edge : State → State)
    (h : (s.point n).mode ≠ .input) : s.risingInput n edge = s.blocked n := if_neg h

theorem State.fallingInput_of_not_input {s : State} {n : Nat} (edge : State → State)
    (h : (s.point n).mode ≠ .input) : s.fallingInput n edge = s.cleared n := if_neg h

theorem State.reads_of_not_input {s : State} {n : Nat} (h : (s.point n).mode ≠ .input) :
    (s.blocked n).reads n = false := by
  rw [State.blocked, State.reads_setLevel_of_not_input _ h]
  exact Point.reading_of_not_input h

/-- Settles O54: every such row is `State.risingInput` or `State.fallingInput` of its point. -/
theorem linesOutOfInputMode : Obligations.LinesOutOfInputMode := by
  intro s
  have hrow {i : Instr} {n : Nat} {edge : State → State} (hexec : exec i s = .next (s.risingInput n edge))
      (h : (s.point n).mode ≠ .input) :
      exec i s = .next (s.blocked n) ∧ (s.blocked n).reads n = false :=
    ⟨by rw [hexec, State.risingInput_of_not_input edge h], State.reads_of_not_input h⟩
  refine ⟨?_, fun w h => (hrow rfl h).1, fun h => ?_, fun h => ?_⟩
  · simp only [List.forall_mem_cons]
    exact ⟨hrow rfl, hrow rfl, hrow rfl, hrow rfl, hrow rfl, hrow rfl, hrow rfl, hrow rfl, hrow rfl,
      hrow rfl, hrow rfl, hrow rfl, hrow rfl, hrow rfl, hrow rfl, hrow rfl, nofun⟩
  · exact congrArg Host.Outcome.next (State.fallingInput_of_not_input (n := 7) _ h)
  · exact congrArg Host.Outcome.next (State.fallingInput_of_not_input (n := 27) _ h)

/-! ### Speed -/

/-- The magnitude of a speed with the sign of its net count. -/
theorem beltSpeed_eq (net : Int) (scale : Nat) :
    beltSpeed net scale = net.sign * ((2 * (net.natAbs * scale * 4) + 1000) / 2000 : Nat) := by
  have hround : halfUp (net.natAbs * scale * 4) 1000 =
      (2 * (net.natAbs * scale * 4) + 1000) / 2000 := rfl
  rw [beltSpeed, hround]
  rcases lt_trichotomy net 0 with h | rfl | h
  · simp [h, Int.sign_eq_neg_one_of_neg h]
  · simp
  · simp [not_lt.2 h.le, Int.sign_eq_one_of_pos h]

/-- Settles O53: the expiry of the period that always runs. -/
theorem speedPeriod : Obligations.SpeedPeriod := by
  intro s
  refine ⟨(s.reach ⟨s.trk.periodStart, 250⟩).onSpeedPeriod, rfl, fun z => ?_, ?_, rfl, ?_⟩
  · rw [← beltSpeed_eq, State.reach_eq]
    cases z <;> rfl
  · rw [State.reach_eq]
    rfl
  · rw [State.reach_eq]
    rfl

end Sys2Proof.Machine
end

section
/-! SUPPORT. The passing of time, and the bytes of a request frame one after another; the proofs of the
statements about them. -/

namespace Sys2Proof.Machine

/-! ### The commands of the timers -/

/-- Every timer with the command that names its expiry, in the order in which the expiries come at one
moment. -/
def timedRows : List (Instr × (State → Option Timer) × (State → State)) :=
  [(.linkGapTimeout, State.linkGapTimer, State.discardFrame),
    (.readerGapTimeout .blockPort, (·.readerGapTimer .blockPort), (·.discardText .blockPort)),
    (.readerGapTimeout .casePort, (·.readerGapTimer .casePort), (·.discardText .casePort)),
    (.readerGapTimeout .jacketPort, (·.readerGapTimer .jacketPort), (·.discardText .jacketPort)),
    (.speedPeriod, State.speedTimer, State.onSpeedPeriod),
    (.stagingReleaseTimeout, State.stagingReleaseTimer, State.onStagingReleaseTimeout),
    (.caseEjectTimeout, State.caseEjectTimer, State.onCaseEjectTimeout),
    (.earlyHoldExpiry, State.earlyHoldTimer, State.onEarlyHoldExpiry),
    (.caseWaitExpiry, State.caseWaitTimer, State.onCaseWaitExpiry),
    (.casingTimeout, State.casingTimer, State.onCasingTimeout),
    (.casingReleaseTimeout, State.casingReleaseTimer, State.onCasingReleaseTimeout),
    (.indexTimeout, State.indexTimeoutTimer, State.onIndexTimeout),
    (.unloadGraceExpiry, State.unloadGraceTimer, State.onUnloadGraceExpiry),
    (.jacketEjectTimeout, State.jacketEjectTimer, State.onJacketEjectTimeout),
    (.jacketCycleTimeout, State.jacketCycleTimer, State.onJacketCycleTimeout),
    (.jacketReleaseTimeout, State.jacketReleaseTimer, State.onJacketReleaseTimeout),
    (.jacketWaitExpiry, State.jacketWaitTimer, State.onJacketWaitExpiry)]

theorem timedEffects_eq_rows : timedEffects = timedRows.map (·.2) := rfl

/-- A row of the table is the command that names the expiry. -/
theorem exec_timedRow (s : State) :
    ∀ x ∈ timedRows, exec x.1 s = .next (s.expire (x.2.1 s) x.2.2) := by
  simp only [timedRows, List.forall_mem_cons]
  exact ⟨rfl, rfl, rfl, rfl, rfl, rfl, rfl, rfl, rfl, rfl, rfl, rfl, rfl, rfl, rfl, rfl, rfl, nofun⟩

theorem timedRows_nodup : (timedRows.map (·.1)).Nodup := by decide

/-- A row at which one timer alone is due, with none due once it has expired. -/
theorem State.expiries_row {s : State} {x : Instr × (State → Option Timer) × (State → State)}
    (hx : x ∈ timedRows) {timer : Timer} (htimer : x.2.1 s = some timer)
    (hdue : timer.due s.clock = true)
    (hothers : ∀ y ∈ timedRows, y.1 ≠ x.1 → ∀ o, y.2.1 s = some o → o.due s.clock = false)
    (hafter : ∀ u ∈ (x.2.2 s).timers, u.due (x.2.2 s).clock = false) :
    State.expiries timedEffects s = x.2.2 s := by
  obtain ⟨a, b, hrows⟩ := List.append_of_mem hx
  have hne : ∀ y ∈ a, y.1 ≠ x.1 := by
    have hnodup := timedRows_nodup
    rw [hrows, List.map_append, List.map_cons, List.nodup_append] at hnodup
    exact fun y hy => hnodup.2.2 _ (List.mem_map_of_mem hy) _ (by simp)
  have hsplit : timedEffects = a.map (·.2) ++ x.2 :: b.map (·.2) := by
    rw [timedEffects_eq_rows, hrows, List.map_append, List.map_cons]
  rw [hsplit]
  refine State.expiries_one _ _ x.2 s timer htimer hdue (fun q hq => ?_) fun q hq t ht => ?_
  · obtain ⟨y, hy, rfl⟩ := List.mem_map.1 hq
    exact hothers y (by simp [hrows, hy]) (hne y hy)
  · exact hafter t (State.mem_timers (by simp [hsplit, hq]) ht)

/-! ### The line clock -/

theorem State.reach_of_due {s : State} {t : Timer} (h : t.due s.clock = true) : s.reach t = s :=
  if_pos h

theorem State.reach_of_not_due {s : State} {t : Timer} (h : t.due s.clock = false) :
    s.reach t = { s with clock := t.since + BitVec.ofNat 32 t.limit } := by simp [State.reach, h]

/-- A timer has run for its time when its limit is added to its start. -/
theorem Timer.due_of_limit (t : Timer) (h : t.limit < 4294967296) :
    t.due (t.since + BitVec.ofNat 32 t.limit) = true := by
  simp [Timer.due, elapsed, BitVec.add_comm t.since, Nat.mod_eq_of_lt h]

/-! ### The idle step -/

theorem step_idle {s : State} (h : s.pending = []) : step s = .next s.tick := by rw [step, h]

/-- With no timer due, the idle step tests for an index alone. -/
theorem State.tick_of_not_due {s : State}
    (h : ∀ t ∈ ({ s with clock := s.clock + 1#32 } : State).timers, t.due (s.clock + 1#32) = false) :
    s.tick = ({ s with clock := s.clock + 1#32 } : State).pressTest := by
  rw [State.tick_eq, State.expiries_none _ _ fun p hp t ht => h t (State.mem_timers hp ht)]

theorem State.pressTest_due {s : State} (hready : s.indexReady = true) (hdue : s.indexDue = true) :
    s.pressTest = s.commandIndex := by simp [State.pressTest, hready, hdue]

theorem State.pressTest_none {s : State} (h : (s.indexReady && s.indexDue) = false) :
    s.pressTest = s := by simp [State.pressTest, h]

/-- The order of the expiries of the staging and casing unit. -/
theorem perm_staging {α : Type} (eject hold wait casing release : α) (l : List α) :
    (release :: eject :: casing :: hold :: wait :: l).Perm
      (eject :: hold :: wait :: casing :: release :: l) := by
  have hrelease : (eject :: hold :: wait :: casing :: release :: l).Perm
      (release :: eject :: hold :: wait :: casing :: l) :=
    List.perm_middle (l₁ := [eject, hold, wait, casing])
  have hcasing : (hold :: wait :: casing :: l).Perm (casing :: hold :: wait :: l) :=
    List.perm_middle (l₁ := [hold, wait])
  exact ((hcasing.symm.cons eject).cons release).trans hrelease.symm

/-- Settles O2: the idle step is the expiries that are due and the test for an index, and a command of a
timer its expiry once the clock has reached it. -/
theorem timePasses : Obligations.TimePasses := by
  unfold Obligations.TimePasses
  intro expiries
  have hrows (s : State) (p : Instr × Option Timer) :
      p ∈ expiries s ↔ ∃ x ∈ timedRows, (x.1, x.2.1 s) = p := by
    rw [← List.mem_map (f := fun x : Instr × (State → Option Timer) × (State → State) =>
      (x.1, x.2.1 s))]
    exact (List.Perm.append_left ((timedRows.map fun x => (x.1, x.2.1 s)).take 6)
      (perm_staging _ _ _ _ _ _)).mem_iff
  refine ⟨fun s hp => ⟨?_, fun hquiet => ?_, fun hnone hready hdue => ?_, ?_⟩,
    fun s => ⟨fun t => State.reach_of_due, fun t hdue hlimit => ?_, fun p hmem hnone => ?_⟩⟩
  · obtain ⟨l, h⟩ := calm_tick s
    exact ⟨_, step_idle hp, h.pending.trans hp, h.clock, h.cause, h.cfg, h.admitSet, h.io⟩
  · rw [step_idle hp, State.tick_of_not_due hquiet.timers, State.pressTest_none hquiet.index]
  · have hstep : step s = .next ({ s with clock := s.clock + 1#32 } : State).pressTest := by
      rw [step_idle hp, State.tick_of_not_due hnone]
    refine ⟨?_, _, hstep.trans (congrArg _ (State.pressTest_due hready hdue))⟩
    rw [hstep, State.pressTest_outcome, if_pos (by rw [hready, hdue]; rfl)]
  · intro p hmem timer htimer hdue hothers t hexec hafter
    obtain ⟨x, hx, rfl⟩ := (hrows _ p).1 hmem
    rw [exec_timedRow _ x hx, State.expire_due htimer hdue] at hexec
    obtain rfl := Host.Outcome.next.inj hexec
    rw [step_idle hp, State.tick_eq, State.expiries_row hx htimer hdue ?_ hafter,
      State.pressTest_outcome]
    exact fun y hy hne => hothers _ ((hrows _ _).2 ⟨y, hy, rfl⟩) hne
  · rw [State.reach_of_not_due hdue]
    exact ⟨rfl, t.due_of_limit hlimit⟩
  · obtain ⟨x, hx, rfl⟩ := (hrows s p).1 hmem
    rw [exec_timedRow s x hx, show x.2.1 s = none from hnone]
    rfl

/-! ### A frame byte by byte -/

theorem runAll_cons {c : Instr} {s t : State} (cs : List Instr) (h : exec c s = .next t) :
    runAll (c :: cs) s = runAll cs t := by rw [runAll, h]

theorem runAll_append {cs : List Instr} {s t : State} (ds : List Instr) (h : runAll cs s = .next t) :
    runAll (cs ++ ds) s = runAll ds t := by
  induction cs generalizing s with
  | nil =>
    obtain rfl := Host.Outcome.next.inj h
    rfl
  | cons c cs ih =>
    rw [runAll] at h
    rw [List.cons_append, runAll]
    split at h
    · exact ih h
    all_goals cases h

theorem runAll_singleton (c : Instr) (s : State) : runAll [c] s = exec c s := by
  rw [runAll]
  cases exec c s <;> rfl

/-- The link with a receive state and a frame buffer, a byte taken now. -/
def State.gathered (s : State) (rx : RxState) (buffer : List Byte) : State :=
  { s with link := { s.link with rx := rx, buffer := buffer, last := s.clock } }

/-- The bytes counted by L fill the frame buffer. -/
theorem runAll_body (s : State) (l : Nat) (bs : List Byte) : ∀ buffer : List Byte, bs ≠ [] →
    buffer.length + bs.length = l → runAll (bs.map .linkByteReceived) (s.gathered (.body l) buffer) =
      .next (s.gathered (.check l) (buffer ++ bs)) := by
  induction bs with
  | nil => exact fun _ h => absurd rfl h
  | cons b bs ih =>
    intro buffer _ hlen
    rw [List.length_cons] at hlen
    have hrx : (s.gathered (.body l) buffer).link.rx = .body l := rfl
    obtain ⟨-, -, hbody, -⟩ := linkReceiveTable b (s.gathered (.body l) buffer)
    rw [List.map_cons, runAll_cons _ (hbody l hrx)]
    show runAll _ (s.gathered (if buffer.length + 1 = l then .check l else .body l) (buffer ++ [b])) = _
    cases bs with
    | nil =>
      rw [if_pos (by simpa using hlen)]
      rfl
    | cons c cs =>
      rw [List.length_cons] at hlen
      rw [if_neg (by omega), ih _ (by simp) (by simp; omega), List.append_assoc, List.singleton_append]

/-- The bytes of a request frame that its check byte covers: length, code and body (R162). -/
def counted (code : Byte) (body : List Byte) : List Byte :=
  BitVec.ofNat 8 (body.length + 1) :: code :: body

/-- The start byte, the length and the bytes it counts. -/
theorem runAll_frame {s : State} (hrx : s.link.rx = .hunting) (code : Byte) (body : List Byte)
    (hlen : body.length ≤ 249) :
    runAll ((0xA5#8 :: counted code body).map .linkByteReceived) s =
      .next (s.gathered (.check (body.length + 1)) (code :: body)) := by
  have hL : (BitVec.ofNat 8 (body.length + 1)).toNat = body.length + 1 := by
    rw [BitVec.toNat_ofNat, Nat.mod_eq_of_lt (by omega)]
  have hstart : exec (.linkByteReceived 0xA5#8) s = .next (s.gathered .length []) := by
    obtain ⟨hhunting, -⟩ := linkReceiveTable 0xA5#8 s
    rw [hhunting hrx, if_pos rfl]
    rfl
  have hlength : exec (.linkByteReceived (BitVec.ofNat 8 (body.length + 1))) (s.gathered .length []) =
      .next (s.gathered (.body (body.length + 1)) []) := by
    obtain ⟨-, hlen, -⟩ :=
      linkReceiveTable (BitVec.ofNat 8 (body.length + 1)) (s.gathered .length [])
    rw [hlen rfl, hL, if_pos (by omega)]
    rfl
  rw [List.map_cons, runAll_cons _ hstart, counted, List.map_cons, runAll_cons _ hlength]
  exact runAll_body s _ (code :: body) [] (by simp) (by simp)

theorem requestFrame_counted (code : Byte) (body : List Byte) :
    requestFrame code body = 0xA5#8 :: (counted code body ++ [checkByte (counted code body)]) := rfl

/-- A check byte makes the sum 0, and no other byte does. -/
theorem eq_checkByte_iff (bs : List Byte) (b : Byte) : b = checkByte bs ↔ byteSum bs + b = 0#8 := by
  rw [checkByte]
  generalize byteSum bs = sum
  constructor <;> intro h <;> bv_omega

/-- A frame with any last byte comes to that byte at the end of the frame buffer. -/
theorem runAll_counted {s : State} (hrx : s.link.rx = .hunting) {code : Byte} {body : List Byte}
    (hlen : body.length ≤ 249) (b : Byte) :
    runAll ((0xA5#8 :: (counted code body ++ [b])).map .linkByteReceived) s =
      exec (.linkByteReceived b) (s.gathered (.check (body.length + 1)) (code :: body)) := by
  rw [← List.cons_append, List.map_append, runAll_append _ (runAll_frame hrx code body hlen)]
  exact runAll_singleton _ _

/-- Settles O9: the frame buffer filled, and the check byte by the receive table. -/
theorem framedRequestIsTaken : Obligations.FramedRequestIsTaken := by
  intro code body s hlen hrx
  have hsum (b : Byte) : BitVec.ofNat 8 (body.length + 1) + byteSum (code :: body) + b = 0#8 ↔
      b = checkByte (counted code body) := by
    rw [eq_checkByte_iff, counted, ← byteSum_cons]
  obtain ⟨-, -, -, hgood, -⟩ :=
    linkReceiveTable (checkByte (counted code body)) (s.gathered (.check (body.length + 1)) (code :: body))
  refine ⟨?_, fun c hc => ?_⟩
  · rw [requestFrame_counted, runAll_counted hrx hlen]
    exact hgood _ code body rfl rfl ((hsum _).2 rfl)
  · have htail : (requestFrame code body).tail.dropLast = counted code body := by
      rw [requestFrame_counted]
      exact List.dropLast_concat
    have hdrop : (requestFrame code body).dropLast = 0xA5#8 :: counted code body := by
      rw [requestFrame_counted, ← List.cons_append, List.dropLast_concat]
    rw [htail] at hc
    rw [hdrop, List.cons_append, runAll_counted hrx hlen]
    obtain ⟨-, -, -, -, hbad, -⟩ :=
      linkReceiveTable c (s.gathered (.check (body.length + 1)) (code :: body))
    exact hbad _ rfl (mt (hsum c).1 hc)

end Sys2Proof.Machine
end

section
/-! SUPPORT. The characters of the readers, the gauge, and an identifier's text judged again as that
identifier; the proofs of the statements about them. -/

namespace Sys2Proof.Machine

/-! ### The table of reader characters (R3) -/

theorem exec_readerCharacter (p : Port) (c : Byte) (e : Bool) (s : State) :
    exec (.readerCharacter p c e) s = .next (s.readerCharacter p c e) := rfl

/-- A character that the table adds to the text. -/
theorem State.readerCharacter_added {s : State} {p : Port} {c : Byte} (hcr : c ≠ 0x0D#8)
    (hlf : (s.text p).count ≠ 0 ∨ c ≠ 0x0A#8) : s.readerCharacter p c false = s.addCharacter p c := by
  have hskip : ¬(c = 0x0A#8 ∧ (s.text p).count = 0) := by tauto
  rw [State.readerCharacter, if_neg (by decide), if_neg hcr, if_neg hskip]

/-- A line end before any character is passed over. -/
theorem State.readerCharacter_skipped {s : State} {p : Port} {c : Byte} (hcount : (s.text p).count = 0)
    (hc : c = 0x0D#8 ∨ c = 0x0A#8) : s.readerCharacter p c false = s := by
  rw [State.readerCharacter, if_neg (by decide)]
  by_cases hcr : c = 0x0D#8
  · rw [if_pos hcr, State.endText, if_pos hcount]
  · rw [if_neg hcr, if_pos ⟨hc.resolve_left hcr, hcount⟩]

theorem State.text_reach (s : State) (t : Timer) (p : Port) : (s.reach t).text p = s.text p := by
  rw [State.reach_eq]
  rfl

/-- Settles O29: the character table row by row, and the timer of a text that has begun. -/
theorem readerCharactersAndGauge : Obligations.ReaderCharactersAndGauge := by
  refine ⟨fun s p c => ⟨rfl, fun hcount hc => ?_, fun hcr hlf => ?_⟩,
    fun s => ⟨fun p hcount => ?_, fun p hcount => ?_, fun v hv => ?_, fun v hv => ?_⟩⟩
  · rw [exec_readerCharacter, State.readerCharacter_skipped hcount hc]
  · rw [exec_readerCharacter, State.readerCharacter_added hcr hlf]
    rfl
  · show Host.Outcome.next (s.expire (s.readerGapTimer p) (State.discardText · p)) = _
    rw [State.readerGapTimer, if_pos hcount]
    rfl
  · show Host.Outcome.next (s.expire (s.readerGapTimer p) (State.discardText · p)) = _
    rw [State.readerGapTimer, if_neg hcount]
    rfl
  · show Host.Outcome.next { s with gauge := { s.gauge with held := some (min v 10000) } } = _
    rw [min_eq_left hv]
  · show Host.Outcome.next { s with gauge := { s.gauge with held := some (min v 10000) } } = _
    rw [min_eq_right hv.le]

/-! ### The text of an identifier (R1, R2) -/

/-- A digit as its character. -/
def digitChar (d : Nat) : Byte := BitVec.ofNat 8 (0x30 + d)

theorem digitVal_digitChar {d : Nat} (h : d < 10) : digitVal (digitChar d) = d := by
  rw [digitVal, digitChar, BitVec.toNat_ofNat]
  omega

theorem isDigit_digitChar {d : Nat} (h : d < 10) : isDigit (digitChar d) = true := by
  rw [isDigit_iff, digitChar, BitVec.toNat_ofNat]
  omega

@[simp] theorem length_digitsOf (k n : Nat) : (digitsOf k n).length = k := by
  induction k generalizing n with
  | zero => rfl
  | succ k ih => simp [digitsOf, ih]

theorem digitsOf_lt (k n : Nat) : ∀ d ∈ digitsOf k n, d < 10 := by
  induction k generalizing n with
  | zero => simp [digitsOf]
  | succ k ih =>
    rw [digitsOf, List.forall_mem_append]
    exact ⟨ih _, by simpa using Nat.mod_lt n (by decide)⟩

/-- The digits of a number that has room are read as that number. -/
theorem decimal_digitsOf (k n : Nat) (h : n < 10 ^ k) : decimal ((digitsOf k n).map digitChar) = n := by
  induction k generalizing n with
  | zero =>
    obtain rfl : n = 0 := by simpa using h
    rfl
  | succ k ih =>
    have hdiv : n / 10 < 10 ^ k := by
      rw [Nat.div_lt_iff_lt_mul (by decide)]
      simpa [Nat.pow_succ] using h
    rw [digitsOf, List.map_append, List.map_singleton, decimal_concat, ih _ hdiv,
      digitVal_digitChar (Nat.mod_lt n (by decide))]
    omega

/-- The ten digits of an identifier. -/
def identDigits (i : Ident) : List Byte := (digitsOf 6 i.order).map digitChar ++
  (digitsOf 4 i.copy).map digitChar

/-- The digits, the item letter and a last character. -/
def textWith (i : Ident) (c : Byte) : List Byte := identDigits i ++ [itemLetter i.item, c]

/-- The check digit of an identifier's own digits and letter. -/
def identCheck (i : Ident) : Nat :=
  checkDigit (digitsOf 6 i.order ++ digitsOf 4 i.copy ++ [itemValue i.item])

theorem identCheck_lt (i : Ident) : identCheck i < 10 := checkDigit_lt _

theorem identText_eq (i : Ident) : identText i = textWith i (digitChar (identCheck i)) := by
  simp only [identText, textWith, identDigits, List.map_append]
  rfl

theorem length_identDigits (i : Ident) : (identDigits i).length = 10 := by simp [identDigits]

theorem itemOfLetter_itemLetter (item : Item) : itemOfLetter (itemLetter item) = some item := by
  cases item <;> rfl

/-- An identifier in range. -/
structure Ident.InRange (i : Ident) : Prop where
  order_pos : 1 ≤ i.order
  order_le : i.order ≤ 999999
  copy_pos : 1 ≤ i.copy
  copy_le : i.copy ≤ 9999

theorem identForm_textWith {i : Ident} (h : i.InRange) {c : Byte} (hc : isDigit c = true) :
    identForm (textWith i c) = some i := by
  have hlen : (textWith i c).length = 12 := by simp [textWith, length_identDigits]
  have hletter : (textWith i c).getD 10 0#8 = itemLetter i.item := by
    simp [textWith, List.getD, length_identDigits]
  have hlast : (textWith i c).getD 11 0#8 = c := by
    simp [textWith, List.getD, length_identDigits]
  have htake : (textWith i c).take 10 = identDigits i := by
    rw [textWith, List.take_left' (length_identDigits i)]
  have horder : decimal ((textWith i c).take 6) = i.order := by
    rw [textWith, identDigits, List.append_assoc, List.take_left' (by simp)]
    exact decimal_digitsOf _ _ (by have := h.order_le; omega)
  have hcopy : decimal (((textWith i c).drop 6).take 4) = i.copy := by
    rw [textWith, identDigits, List.append_assoc, List.drop_left' (by simp), List.take_left' (by simp)]
    exact decimal_digitsOf _ _ (by have := h.copy_le; omega)
  have hdigits : (identDigits i).all isDigit = true := by
    simp only [identDigits, List.all_append, List.all_map, Bool.and_eq_true, List.all_eq_true]
    exact ⟨fun d hd => isDigit_digitChar (digitsOf_lt _ _ d hd),
      fun d hd => isDigit_digitChar (digitsOf_lt _ _ d hd)⟩
  have hpos := h.order_pos
  have hpos' := h.copy_pos
  rw [identForm, if_pos hlen, hletter, itemOfLetter_itemLetter]
  simp only [hlast, htake, horder, hcopy, hdigits, hc]
  rw [if_pos]
  simp
  omega

/-- The text of an identifier is judged VALID, and with another last digit BAD_CHECK. -/
theorem judgeText_textWith {i : Ident} (h : i.InRange) {c : Byte} (hc : isDigit c = true) :
    judgeText (textWith i c) 12 = if textWith i c = identText i then .valid i else .badCheck :=
  judgeText_of_form rfl (identForm_textWith h hc)

theorem judgeText_identText {i : Ident} (h : i.InRange) : judgeText (identText i) 12 = .valid i := by
  rw [identText_eq, judgeText_textWith h (isDigit_digitChar (identCheck_lt i)), ← identText_eq,
    if_pos rfl]

/-! ### A text character by character -/

theorem State.setText_setText (s : State) (p : Port) (t u : RxText) :
    (s.setText p t).setText p u = s.setText p u := by cases p <;> rfl

theorem State.setText_self (s : State) (p : Port) : s.setText p (s.text p) = s := by cases p <;> rfl

/-- The text in reception with a character more. -/
theorem State.addCharacter_eq {s : State} {p : Port} {stored : List Byte} {last : Clock} (c : Byte)
    (htext : s.text p = ⟨stored, stored.length, last⟩) (hlen : stored.length < 20) :
    s.addCharacter p c = s.setText p ⟨stored ++ [c], (stored ++ [c]).length, s.clock⟩ := by
  rw [State.addCharacter, htext]
  dsimp only
  rw [if_pos hlen, List.length_append, List.length_singleton]

/-- Digits and letters are gathered, as many as are stored. -/
theorem runAll_characters (p : Port) (cs : List Byte) (hcs : ∀ c ∈ cs, 0x30 ≤ c.toNat) (hne : cs ≠ []) :
    ∀ (s : State) (stored : List Byte) (last : Clock), s.text p = ⟨stored, stored.length, last⟩ →
      stored.length + cs.length ≤ 20 → runAll (cs.map (fun c => .readerCharacter p c false)) s =
        .next (s.setText p ⟨stored ++ cs, (stored ++ cs).length, s.clock⟩) := by
  induction cs with
  | nil => exact absurd rfl hne
  | cons c cs ih =>
    intro s stored last htext hlen
    rw [List.length_cons] at hlen
    obtain ⟨hc, hcs⟩ := List.forall_mem_cons.1 hcs
    have hcr : c ≠ 0x0D#8 := by rintro rfl; exact absurd hc (by decide)
    have hlf : c ≠ 0x0A#8 := by rintro rfl; exact absurd hc (by decide)
    have hadd : exec (.readerCharacter p c false) s =
        .next (s.setText p ⟨stored ++ [c], (stored ++ [c]).length, s.clock⟩) := by
      rw [exec_readerCharacter, State.readerCharacter_added hcr (.inr hlf),
        State.addCharacter_eq c htext (by omega)]
    rw [List.map_cons, runAll_cons _ hadd]
    cases cs with
    | nil => rfl
    | cons d ds =>
      rw [ih hcs (by simp) _ (stored ++ [c]) s.clock (State.text_setText s p _) (by simp at hlen ⊢; omega),
        State.setText_setText, List.append_assoc, List.singleton_append]
      rfl

/-- A text of twelve characters, sent whole to an empty port and ended by a carriage return. -/
theorem runAll_text {s : State} {p : Port} (hempty : s.text p = ⟨[], 0, 0#32⟩) {cs : List Byte}
    (hcs : ∀ c ∈ cs, 0x30 ≤ c.toNat) (hlen : cs.length = 12) :
    runAll ((cs ++ [0x0D#8]).map (fun c => .readerCharacter p c false)) s =
      .next (s.deliverScan p (judgeText cs 12)) := by
  have hne : cs ≠ [] := by rintro rfl; cases hlen
  have hgather := runAll_characters p cs hcs hne s [] 0#32 hempty (by simp [hlen])
  rw [List.map_append, runAll_append _ hgather, List.map_singleton, runAll_singleton,
    List.nil_append, hlen]
  have htext := State.text_setText s p ⟨cs, 12, s.clock⟩
  rw [exec_carriageReturn (by rw [htext]; exact Nat.succ_ne_zero 11) rfl, htext, State.setText_setText,
    show RxText.none = s.text p from hempty.symm, State.setText_self]

theorem textWith_ge {i : Ident} {c : Byte} (hc : 0x30 ≤ c.toNat) :
    ∀ x ∈ textWith i c, 0x30 ≤ x.toNat := by
  have hdigit {d : Nat} (hd : d < 10) : 0x30 ≤ (digitChar d).toNat :=
    ((isDigit_iff _).1 (isDigit_digitChar hd)).1
  have hletter : 0x30 ≤ (itemLetter i.item).toNat := by cases i.item <;> decide
  simp only [textWith, identDigits, List.forall_mem_append, List.forall_mem_map, List.forall_mem_cons]
  exact ⟨⟨fun d hd => hdigit (digitsOf_lt _ _ d hd), fun d hd => hdigit (digitsOf_lt _ _ d hd)⟩,
    hletter, hc, nofun⟩

/-- Settles O31: the text gathered, and judged with its own check digit or another. -/
theorem identifierRoundTrip : Obligations.IdentifierRoundTrip := by
  intro s p i hempty horder horder' hcopy hcopy'
  have hi : i.InRange := ⟨horder, horder', hcopy, hcopy'⟩
  have hcheck := (isDigit_iff _).1 (isDigit_digitChar (identCheck_lt i))
  have hlen (c : Byte) : (textWith i c).length = 12 := by simp [textWith, length_identDigits]
  refine ⟨?_, fun c hlast hlo hhi => ?_⟩
  · rw [← judgeText_identText hi, identText_eq]
    exact runAll_text hempty (textWith_ge hcheck.1) (hlen _)
  · have hdrop : (identText i).dropLast ++ [c, 0x0D#8] = textWith i c ++ [0x0D#8] := by
      simp [identText_eq, textWith]
    have hother : textWith i c ≠ identText i := by
      rintro h
      rw [← h] at hlast
      exact hlast (by simp [textWith])
    rw [hdrop, runAll_text hempty (textWith_ge hlo) (hlen c),
      judgeText_textWith hi ((isDigit_iff c).2 ⟨hlo, hhi⟩), if_neg hother]

end Sys2Proof.Machine
end

section
/-! SUPPORT. Bodies of numbers cut again, and the requests that read, load, amend and collect; the proofs of
the statements about them. -/

namespace Sys2Proof.Machine

/-! ### Bodies cut into their fields -/

theorem splitFields_append {w n : Nat} (ws : List Nat) (bs : List Byte) (h : n < 256 ^ w) :
    splitFields (w :: ws) (beBytes w n ++ bs) = (splitFields ws bs).map (n :: ·) := by
  rw [splitFields, if_neg (by simp), List.take_left' (length_beBytes w n),
    List.drop_left' (length_beBytes w n), readBE_beBytes w n h]

theorem splitFields_single {w n : Nat} (h : n < 256 ^ w) : splitFields [w] (beBytes w n) = some [n] := by
  have hsplit := splitFields_append [] [] h
  rwa [List.append_nil] at hsplit

theorem beBytes_one (n : Nat) : beBytes 1 n = [BitVec.ofNat 8 n] := rfl

theorem splitFields_byte (ws : List Nat) (b : Byte) (bs : List Byte) :
    splitFields (1 :: ws) (b :: bs) = (splitFields ws bs).map (b.toNat :: ·) := by
  have hb : beBytes 1 b.toNat = [b] := by simp [beBytes_one]
  have hsplit := splitFields_append ws bs (w := 1) b.isLt
  rwa [hb] at hsplit

theorem splitFields_ofNat {n : Nat} (h : n < 256) : splitFields [1] [BitVec.ofNat 8 n] = some [n] :=
  splitFields_single (w := 1) h

/-- A request that is taken: what its handler does and answers, framed. -/
theorem exec_request {code : Byte} {i : Instr} {h : Handler} {body : List Byte} {s t : State} {r : Reply}
    (hrx : s.link.rx ≠ .answering) (hexec : exec i s = .next (s.takeRequest code h body))
    (hh : h body s = (t, r)) : exec i s = .next (t.respond code r) := by
  rw [hexec, State.takeRequest_of_handler code hrx hh]

/-! ### STATUS, READ CONFIG, READ POINTS (R165, R166, R158) -/

theorem length_outcomes {s : State} (h : s.SlotsAccounted) :
    s.table.outcomes.length = s.table.books.countP (fun b => !b.live) := by
  have hslots : ((s.table.books.filter (fun b => !b.live)).map (·.slot)).Nodup :=
    (List.filter_sublist.map _).nodup h.nodup
  have hperm : s.table.outcomes.Perm ((s.table.books.filter (fun b => !b.live)).map (·.slot)) := by
    rw [List.perm_ext_iff_of_nodup h.outcomes_nodup hslots]
    intro r
    rw [h.outcomes]
    simp [Book.live, and_assoc, and_comm]
  rw [hperm.length_eq, List.length_map, List.countP_eq_length_filter]

theorem length_books_le {s : State} (h : s.SlotsAccounted) : s.table.books.length ≤ 96 := by
  have hsub : s.table.books.map (·.slot) ⊆ (List.range 96).map (· + 1) := by
    intro r hr
    obtain ⟨b, hb, rfl⟩ := List.mem_map.1 hr
    have hrange := h.range b hb
    exact List.mem_map.2 ⟨b.slot - 1, List.mem_range.2 (by omega), by omega⟩
  have hle := (h.nodup.subperm hsub).length_le
  simpa using hle

/-- Every slot is free, live or retired. -/
theorem slots_add {s : State} (h : s.SlotsAccounted) :
    s.freeSlots + s.liveCount + s.outcomeCount = 96 := by
  have hle := length_books_le h
  have hsum := List.length_eq_countP_add_countP Book.live (l := s.table.books)
  have hout := length_outcomes h
  simp only [State.freeSlots, State.liveCount, State.outcomeCount]
  simp only [Bool.not_eq_true, Bool.decide_eq_false] at hsum
  omega

/-- The points that READ POINTS reports are those of the sixteen from the first. -/
theorem pointsFrom_eq : ∀ first < 49, 1 ≤ first →
    pointsFrom first = (List.range 49).filter (fun n => decide (first ≤ n ∧ n < first + 16)) := by
  decide

/-- Settles O12: the handlers answer from the state as it stands. -/
theorem readingTheLine : Obligations.ReadingTheLine := by
  intro s hrx
  refine ⟨exec_request (h := onStatus) hrx rfl rfl, slots_add, exec_request (h := onReadConfig) hrx rfl rfl,
    fun first hfirst hle => exec_request (h := onReadPoints) hrx rfl ?_,
    fun first hlt hout => exec_request (h := onReadPoints) hrx rfl ?_⟩
  · have hin : inRange 1 48 first = true := (inRange_eq_true _ _ _).2 ⟨hfirst, hle⟩
    simp only [onReadPoints, splitFields_ofNat (by omega : first < 256), hin,
      ← pointsFrom_eq first (by omega) hfirst]
    rfl
  · have hin : inRange 1 48 first = false := by
      rw [Bool.eq_false_iff, Ne, inRange_eq_true]
      omega
    simp only [onReadPoints, splitFields_ofNat hlt, hin]
    rfl

/-! ### READ ORDER and READ COPY MAP (R21, R22) -/

/-- The entries from a start slot upward, by their slots. -/
theorem State.ordersFrom_eq (s : State) {start : Nat} (h : 1 ≤ start) :
    s.ordersFrom start = (((List.range 25).filter (fun k => decide (start ≤ k))).filterMap
      (fun k => s.orders.find? (fun o => o.slot == k))).take 12 := by
  have hrange : List.range 25 = 0 :: (List.range 24).map (· + 1) := List.range_succ_eq_map
  rw [State.ordersFrom, hrange, List.filter_cons_of_neg (by simp; omega), List.filterMap_filter]
  simp only [decide_eq_true_eq]

theorem splitFields_readOrder {n : Nat} (hn : n < 4294967296) (start : Byte) :
    splitFields [4, 1] (beBytes 4 n ++ [start]) = some [n, start.toNat] := by
  rw [splitFields_append _ _ hn, splitFields_byte]
  rfl

/-- Settles O13: the handlers' branches, by the order named and its presence. -/
theorem readingOrders : Obligations.ReadingOrders := by
  intro s n hrx
  have hlarge (h : n ≤ 999999) : ¬999999 < n := by omega
  refine ⟨fun o start hn hle ho => exec_request (h := onReadOrder) hrx rfl ?_,
    fun start hn hle ho => exec_request (h := onReadOrder) hrx rfl ?_,
    fun start hstart hle => exec_request (h := onReadOrder) hrx rfl ?_,
    fun o start count hn ho hmode hstart hle hlt hcount hcount' =>
      exec_request (h := onReadCopyMap) hrx rfl ?_⟩
  · simp only [onReadOrder, splitFields_readOrder (by omega : n < 4294967296), if_neg (hlarge hle),
      if_neg (by omega : ¬n = 0), ho]
    rfl
  · simp only [onReadOrder, splitFields_readOrder (by omega : n < 4294967296), if_neg (hlarge hle),
      if_neg (by omega : ¬n = 0), ho]
    rfl
  · have hb : (BitVec.ofNat 8 start).toNat = start := by
      rw [BitVec.toNat_ofNat]
      omega
    have hin : inRange 1 24 start = true := (inRange_eq_true _ _ _).2 ⟨hstart, hle⟩
    simp only [onReadOrder, splitFields_readOrder (by decide : 0 < 4294967296), hb, hin,
      s.ordersFrom_eq hstart]
    rfl
  · have hsplit : splitFields [4, 2, 1] (beBytes 4 n ++ beBytes 2 start ++ beBytes 1 count) =
        some [n, start, count] := by
      rw [List.append_assoc, splitFields_append _ _ hn, splitFields_append _ _ hlt,
        splitFields_single (w := 1) (by omega : count < 256)]
      rfl
    have htests : (inRange 1 64 count && decide (o.tmpl.mode = .copyExact) && inRange 1 o.copies start) =
        true := by simp [*]
    simp only [onReadCopyMap, hsplit, ho, htests]
    rfl

/-! ### READ BOOK, FIND BOOK, LIST OUTCOMES (R49, R50, R51) -/

theorem State.answerFind_eq (s : State) (found : List Book) :
    s.answerFind found = (s, if found = [] then refuse .notFound
      else ⟨.ok, num 1 found.length ++ lines ((found.take 8).map findLine)⟩) := by
  cases found <;> rfl

/-- Settles O14: the handlers' branches, and the key of an identifier judged as that identifier. -/
theorem readingRecords : Obligations.ReadingRecords := by
  intro s hrx
  have hin {r : Nat} (h1 : 1 ≤ r) (h96 : r ≤ 96) : inRange 1 96 r = true :=
    (inRange_eq_true _ _ _).2 ⟨h1, h96⟩
  refine ⟨fun r b h1 h96 hb => exec_request (h := onReadBook) hrx rfl ?_,
    fun r h1 h96 hb => exec_request (h := onReadBook) hrx rfl ?_,
    fun order copy bound found ho ho' hc hc' hbound hfound =>
      exec_request (h := onFindBook) hrx rfl ?_,
    fun i bound found ho ho' hc hc' hbound hfound => exec_request (h := onFindBook) hrx rfl ?_,
    exec_request (h := onListOutcomes) hrx rfl rfl⟩
  · simp only [onReadBook, splitFields_ofNat (by omega : r < 256), hin h1 h96, hb]
    rfl
  · simp only [onReadBook, splitFields_ofNat (by omega : r < 256), hin h1 h96, hb]
    rfl
  · have hsplit : splitFields [4, 2, 4] (beBytes 4 order ++ beBytes 2 copy ++ beBytes 4 bound) =
        some [order, copy, bound] := by
      rw [List.append_assoc, splitFields_append _ _ (by omega), splitFields_append _ _ (by omega),
        splitFields_single hbound]
      rfl
    have hrange : (inRange 1 999999 order && inRange 1 9999 copy) = true := by simp [*]
    have hkind : ¬(1#8 : Byte) = 0#8 := by decide
    simp only [onFindBook, if_neg hkind, hsplit, State.findByCopy, hrange, State.answerFind_eq, hfound,
      State.findBooks, Bool.decide_and]
    rfl
  · have hlen : (identText i).length = 12 := by simp [identText_eq, textWith, length_identDigits]
    have hrest : (identText i ++ beBytes 4 bound).length = 16 := by simp [hlen]
    have hi : i.InRange := ⟨ho, ho', hc, hc'⟩
    simp only [onFindBook, if_pos hrest, List.take_left' hlen, List.drop_left' hlen, readBE_beBytes 4 bound hbound,
      State.findByIdentifier, hlen, judgeText_identText hi, State.answerFind_eq, hfound, State.findBooks]
    rfl

/-! ### COLLECT and MARK REJECT (R52, R53) -/

theorem splitFields_collect {r seq : Nat} (hr : r < 256) (hseq : seq < 4294967296) :
    splitFields [1, 4] (BitVec.ofNat 8 r :: beBytes 4 seq) = some [r, seq] := by
  have hb : (BitVec.ofNat 8 r).toNat = r := by
    rw [BitVec.toNat_ofNat]
    omega
  rw [splitFields_byte, splitFields_single hseq, hb]
  rfl

theorem seqNames_iff (seq : Nat) (b : Book) : seqNames seq b = true ↔ seq = 0 ∨ seq = b.seq := by
  simp [seqNames]

theorem live_eq_false_iff (b : Book) : b.live = false ↔ b.life = .retired := by
  rw [Bool.eq_false_iff, Ne, Book.live_iff, not_not]

/-- Records changed one by one, each in its slot, are found again in their slots. -/
theorem find?_forall₂ {R : Book → Book → Prop} (hslot : ∀ b c, R b c → c.slot = b.slot)
    {l m : List Book} (h : List.Forall₂ R l m) {r : Nat} {b : Book}
    (hb : l.find? (fun c => c.slot == r) = some b) :
    ∃ c, m.find? (fun c => c.slot == r) = some c ∧ R b c := by
  induction h with
  | nil => cases hb
  | @cons x y l m hxy _ ih =>
    rw [List.find?_cons] at hb ⊢
    rw [hslot x y hxy]
    split at hb
    · cases hb
      exact ⟨y, rfl, hxy⟩
    · exact ih hb

theorem Book.Decided.slot {b c : Book} (h : b.Decided c) : c.slot = b.slot := by
  show c.fixed.slot = b.fixed.slot
  rw [h.fixed]

/-- A record after the units have decided. -/
theorem Decides.book?_eq {s t : State} (h : Decides s t) {r : Nat} {b : Book} (hb : s.book? r = some b) :
    ∃ c, t.book? r = some c ∧ b.Decided c :=
  find?_forall₂ (fun _ _ hbc => hbc.slot) h.books hb

theorem onCollect_eq {s : State} {r seq : Nat} (h1 : 1 ≤ r) (h96 : r ≤ 96) (hseq : seq < 4294967296) :
    onCollect (BitVec.ofNat 8 r :: beBytes 4 seq) s =
      match s.book? r with
      | none => s.refused .notFound
      | some b =>
        if !seqNames seq b then s.refused .notFound
        else if b.live then s.refused .wrongState
        else (s.collect r, ⟨.ok, num 1 r ++ num 4 b.seq ++ retiredBody b⟩) := by
  have hin : inRange 1 96 r = true := (inRange_eq_true _ _ _).2 ⟨h1, h96⟩
  simp only [onCollect, splitFields_collect (by omega : r < 256) hseq, hin]
  rfl

theorem onMarkReject_eq {s : State} {r seq : Nat} (h1 : 1 ≤ r) (h96 : r ≤ 96)
    (hseq : seq < 4294967296) :
    onMarkReject (BitVec.ofNat 8 r :: beBytes 4 seq) s =
      match s.book? r with
      | none => s.refused .notFound
      | some b =>
        if !seqNames seq b then s.refused .notFound
        else if !b.live then s.refused .tooLate
        else if b.lane.isSome then s.refused .tooLate
        else ((s.setReason r .requested).announce,
          ⟨.ok, one (reasonCode (b.reason.getD .requested))⟩) := by
  have hin : inRange 1 96 r = true := (inRange_eq_true _ _ _).2 ⟨h1, h96⟩
  simp only [onMarkReject, splitFields_collect (by omega : r < 256) hseq, hin]
  rfl

theorem Book.reason_getD (b : Book) (why : Reason) : { b with reason := some (b.reason.getD why) } =
    if b.reason.isNone then { b with reason := some why } else b := by
  cases h : b.reason with
  | none => rfl
  | some w => cases b; cases h; rfl

/-- A reason asked for a live record stands beside one it carries. -/
theorem book?_setReason {s : State} {r : Nat} {b : Book} (why : Reason) (hb : s.book? r = some b)
    (hlive : b.live = true) :
    (s.setReason r why).book? r = some { b with reason := some (b.reason.getD why) } := by
  have hslot (c : Book) :
      (if c.live && c.reason.isNone then { c with reason := some why } else c).slot = c.slot := by
    split <;> rfl
  rw [State.setReason, State.book?_updBook_self s r _ hslot, hb]
  rw [Option.map_some, hlive, Bool.true_and, ← Book.reason_getD]

/-- Settles O23: the handlers' tests in their order. -/
theorem collectAndMarkReject : Obligations.CollectAndMarkReject := by
  intro s r seq hrx h1 h96 hseq
  have hcollect {t : State} {reply : Reply}
      (hh : onCollect (BitVec.ofNat 8 r :: beBytes 4 seq) s = (t, reply)) :
      exec (.collect (BitVec.ofNat 8 r :: beBytes 4 seq)) s = .next (t.respond 0x23#8 reply) :=
    exec_request hrx rfl hh
  have hmark {t : State} {reply : Reply}
      (hh : onMarkReject (BitVec.ofNat 8 r :: beBytes 4 seq) s = (t, reply)) :
      exec (.markReject (BitVec.ofNat 8 r :: beBytes 4 seq)) s = .next (t.respond 0x24#8 reply) :=
    exec_request hrx rfl hh
  rw [onCollect_eq h1 h96 hseq] at hcollect
  rw [onMarkReject_eq h1 h96 hseq] at hmark
  refine ⟨fun hb => ?_, fun b hb => ?_⟩
  · rw [hb] at hcollect hmark
    exact ⟨hcollect rfl, hmark rfl⟩
  · rw [hb] at hcollect hmark
    refine ⟨fun h0 hne => ?_, fun hnames hlive => ?_, fun hnames hretired => ?_, fun hnames hlate => ?_,
      fun hnames hlive hlane => ?_⟩
    · have hnot : seqNames seq b = false := by
        rw [Bool.eq_false_iff, Ne, seqNames_iff]
        tauto
      simp only [hnot] at hcollect hmark
      exact ⟨hcollect rfl, hmark rfl⟩
    all_goals
      simp only [(seqNames_iff seq b).2 hnames] at hcollect hmark
    · simp only [(Book.live_iff b).2 hlive] at hcollect
      exact hcollect rfl
    · simp only [(live_eq_false_iff b).2 hretired] at hcollect
      exact hcollect rfl
    · rcases hlate with hretired | hlane
      · simp only [(live_eq_false_iff b).2 hretired] at hmark
        exact hmark rfl
      · rw [← Option.isSome_iff_ne_none] at hlane
        simp only [hlane] at hmark
        cases hl : b.live <;> simp only [hl] at hmark <;> exact hmark rfl
    · have hl := (Book.live_iff b).2 hlive
      simp only [hl, hlane] at hmark
      have hdecides : Decides (s.setReason r .requested) (s.setReason r .requested).announce :=
        decides_announce _
      obtain ⟨c, hc, hdecided⟩ := hdecides.book?_eq (book?_setReason .requested hb hl)
      exact ⟨_, c, hmark rfl, (decides_setReason s r _).trans hdecides, hc, hdecided.reason _ rfl⟩

end Sys2Proof.Machine
end

section
/-! SUPPORT. What each decision of the units moves, and that all else stands: frames, and the fields read
through them. -/

namespace Sys2Proof.Machine

/-! ### The staging head decision: the staging side, the case queue and the records -/

theorem State.setReason_frame (s : State) (r : Nat) (why : Reason) :
    { s.setReason r why with table := s.table } = s := rfl

theorem State.decideCase_frame (s : State) (x : Book) (h : CaseEntry) (behind : List CaseEntry) :
    { s.decideCase x h behind with
      table := s.table, stg := { (s.decideCase x h behind).stg with
        side := s.stg.side, cases := s.stg.cases } } = s := by
  unfold State.decideCase
  split
  · rfl
  · rfl
  · split
    · rfl
    · split
      · unfold State.waitCase
        split <;> rfl
      · rfl

theorem State.decideHead_frame (s : State) (x : Book) :
    { s.decideHead x with
      table := s.table, stg := { (s.decideHead x).stg with
        side := s.stg.side, cases := s.stg.cases } } = s := by
  have hcase : { s.waitCase with table := s.table, stg := { s.waitCase.stg with
      side := s.stg.side, cases := s.stg.cases } } = s := by
    unfold State.waitCase
    split <;> rfl
  have hearly : { s.waitEarly with table := s.table, stg := { s.waitEarly.stg with
      side := s.stg.side, cases := s.stg.cases } } = s := by
    unfold State.waitEarly
    split <;> rfl
  unfold State.decideHead
  split
  · rfl
  · split
    · rfl
    · split
      · rfl
      · split
        · exact hearly
        · split
          · rfl
          · split
            · exact hcase
            · exact s.decideCase_frame _ _ _

theorem State.stagingDecide_frame (s : State) :
    { s.stagingDecide with
      table := s.table, stg := { s.stagingDecide.stg with
        side := s.stg.side, cases := s.stg.cases } } = s := by
  unfold State.stagingDecide
  split
  · split
    · exact s.decideHead_frame _
    · rfl
  · rfl

@[simp] theorem State.stagingDecide_trk (s : State) : s.stagingDecide.trk = s.trk :=
  (congrArg State.trk s.stagingDecide_frame :)
@[simp] theorem State.stagingDecide_press (s : State) : s.stagingDecide.press = s.press :=
  (congrArg State.press s.stagingDecide_frame :)
@[simp] theorem State.stagingDecide_dlv (s : State) : s.stagingDecide.dlv = s.dlv :=
  (congrArg State.dlv s.stagingDecide_frame :)
@[simp] theorem State.stagingDecide_zones (s : State) : s.stagingDecide.zones = s.zones :=
  (congrArg State.zones s.stagingDecide_frame :)
@[simp] theorem State.stagingDecide_casing (s : State) :
    s.stagingDecide.stg.casing = s.stg.casing :=
  (congrArg (fun t : State => t.stg.casing) s.stagingDecide_frame :)

/-- The staging head decision marks the head of the case queue at most. -/
theorem identities_markHead (v : Bool) (l : List CaseEntry) :
    (markHead v l).map (·.identity) = l.map (·.identity) := by
  cases l <;> rfl

theorem State.decideCase_identities (s : State) (x : Book) (h : CaseEntry) (behind : List CaseEntry) :
    (s.decideCase x h behind).stg.cases.map (·.identity) = s.stg.cases.map (·.identity) := by
  unfold State.decideCase
  split
  · rfl
  · exact identities_markHead true _
  · split
    · rfl
    · split
      · unfold State.waitCase
        split <;> rfl
      · rfl

theorem State.stagingDecide_identities (s : State) :
    s.stagingDecide.stg.cases.map (·.identity) = s.stg.cases.map (·.identity) := by
  have hcase : s.waitCase.stg.cases = s.stg.cases := by unfold State.waitCase; split <;> rfl
  have hearly : s.waitEarly.stg.cases = s.stg.cases := by unfold State.waitEarly; split <;> rfl
  unfold State.stagingDecide
  split
  · split
    · unfold State.decideHead
      split
      · rfl
      · split
        · rfl
        · split
          · rfl
          · split
            · rw [hearly]
            · split
              · rfl
              · split
                · rw [hcase]
                · exact s.decideCase_identities _ _ _
    · rfl
  · rfl

/-! ### The casing release and the casing cycle -/

theorem State.casingReleaseTest_frame (s : State) :
    { s.casingReleaseTest with stg := { s.casingReleaseTest.stg with casing := s.stg.casing } } = s := by
  unfold State.casingReleaseTest
  split
  · split <;> rfl
  all_goals rfl

@[simp] theorem State.casingReleaseTest_table (s : State) : s.casingReleaseTest.table = s.table :=
  (congrArg State.table s.casingReleaseTest_frame :)
@[simp] theorem State.casingReleaseTest_trk (s : State) : s.casingReleaseTest.trk = s.trk :=
  (congrArg State.trk s.casingReleaseTest_frame :)
@[simp] theorem State.casingReleaseTest_press (s : State) : s.casingReleaseTest.press = s.press :=
  (congrArg State.press s.casingReleaseTest_frame :)
@[simp] theorem State.casingReleaseTest_dlv (s : State) : s.casingReleaseTest.dlv = s.dlv :=
  (congrArg State.dlv s.casingReleaseTest_frame :)
@[simp] theorem State.casingReleaseTest_zones (s : State) : s.casingReleaseTest.zones = s.zones :=
  (congrArg State.zones s.casingReleaseTest_frame :)
@[simp] theorem State.casingReleaseTest_side (s : State) :
    s.casingReleaseTest.stg.side = s.stg.side :=
  (congrArg (fun t : State => t.stg.side) s.casingReleaseTest_frame :)
@[simp] theorem State.casingReleaseTest_cases (s : State) :
    s.casingReleaseTest.stg.cases = s.stg.cases :=
  (congrArg (fun t : State => t.stg.cases) s.casingReleaseTest_frame :)

theorem State.casingCycleTest_frame (s : State) :
    { s.casingCycleTest with
      table := s.table, stg := { s.casingCycleTest.stg with
        side := s.stg.side, cases := s.stg.cases, casing := s.stg.casing } } = s := by
  unfold State.casingCycleTest
  split
  · split
    · exact (congrArg (fun t : State => { t with stg := { t.stg with
        cases := s.stg.cases, casing := s.stg.casing } }) (State.stagingDecide_frame _) :)
    · rfl
  all_goals rfl

@[simp] theorem State.casingCycleTest_trk (s : State) : s.casingCycleTest.trk = s.trk :=
  (congrArg State.trk s.casingCycleTest_frame :)
@[simp] theorem State.casingCycleTest_press (s : State) : s.casingCycleTest.press = s.press :=
  (congrArg State.press s.casingCycleTest_frame :)
@[simp] theorem State.casingCycleTest_dlv (s : State) : s.casingCycleTest.dlv = s.dlv :=
  (congrArg State.dlv s.casingCycleTest_frame :)
@[simp] theorem State.casingCycleTest_zones (s : State) : s.casingCycleTest.zones = s.zones :=
  (congrArg State.zones s.casingCycleTest_frame :)

/-! ### The jacket release and the stop decision -/

theorem State.jacketReleaseTest_frame (s : State) :
    { s.jacketReleaseTest with
      trk := s.trk, dlv := { s.jacketReleaseTest.dlv with stop := s.dlv.stop } } = s := by
  unfold State.jacketReleaseTest
  split
  · split <;> rfl
  all_goals rfl

@[simp] theorem State.jacketReleaseTest_table (s : State) : s.jacketReleaseTest.table = s.table :=
  (congrArg State.table s.jacketReleaseTest_frame :)
@[simp] theorem State.jacketReleaseTest_stg (s : State) : s.jacketReleaseTest.stg = s.stg :=
  (congrArg State.stg s.jacketReleaseTest_frame :)
@[simp] theorem State.jacketReleaseTest_press (s : State) : s.jacketReleaseTest.press = s.press :=
  (congrArg State.press s.jacketReleaseTest_frame :)
@[simp] theorem State.jacketReleaseTest_zones (s : State) : s.jacketReleaseTest.zones = s.zones :=
  (congrArg State.zones s.jacketReleaseTest_frame :)
@[simp] theorem State.jacketReleaseTest_jackets (s : State) :
    s.jacketReleaseTest.dlv.jackets = s.dlv.jackets :=
  (congrArg (fun t : State => t.dlv.jackets) s.jacketReleaseTest_frame :)

theorem State.releaseUnjacketed_frame (s : State) (x : Book) :
    { s.releaseUnjacketed x with
      table := s.table, trk := s.trk, dlv := { (s.releaseUnjacketed x).dlv with
        stop := s.dlv.stop } } = s := by
  have hrelease (t : State) : { (t.setStop (.done x.slot)).jacketReleaseTest with
      table := t.table, trk := t.trk, dlv := { (t.setStop (.done x.slot)).jacketReleaseTest.dlv with
        stop := t.dlv.stop } } = t :=
    (congrArg (fun u : State => { u with table := t.table, dlv := { u.dlv with stop := t.dlv.stop } })
      (State.jacketReleaseTest_frame (t.setStop (.done x.slot))) :)
  unfold State.releaseUnjacketed
  split
  · exact (congrArg (fun u : State => { u with table := s.table }) (hrelease _) :)
  · exact hrelease s

theorem State.decideStop_frame (s : State) (x : Book) (timer : Option Timer) :
    { s.decideStop x timer with
      table := s.table, trk := s.trk, dlv := { (s.decideStop x timer).dlv with
        stop := s.dlv.stop, jackets := s.dlv.jackets } } = s := by
  have hrelease := congrArg (fun u : State => { u with dlv := { u.dlv with jackets := s.dlv.jackets } })
    (s.releaseUnjacketed_frame x)
  unfold State.decideStop
  split
  · exact hrelease
  · split
    · rfl
    · split
      case h_1 | h_2 | h_3 | h_4 => rfl
      case h_5 => exact hrelease

theorem State.jacketDecide_frame (s : State) :
    { s.jacketDecide with
      table := s.table, trk := s.trk, dlv := { s.jacketDecide.dlv with
        stop := s.dlv.stop, jackets := s.dlv.jackets } } = s := by
  unfold State.jacketDecide
  split
  · split
    · split
      · exact s.decideStop_frame _ _
      · rfl
    · rfl
  all_goals rfl

@[simp] theorem State.jacketDecide_stg (s : State) : s.jacketDecide.stg = s.stg :=
  (congrArg State.stg s.jacketDecide_frame :)
@[simp] theorem State.jacketDecide_press (s : State) : s.jacketDecide.press = s.press :=
  (congrArg State.press s.jacketDecide_frame :)
@[simp] theorem State.jacketDecide_zones (s : State) : s.jacketDecide.zones = s.zones :=
  (congrArg State.zones s.jacketDecide_frame :)

/-! ### The index command, back-pressure and the drains -/

theorem State.pressTest_frame (s : State) :
    { s.pressTest with press := { s.pressTest.press with
      index := s.press.index, lastCommand := s.press.lastCommand } } = s := by
  unfold State.pressTest
  split <;> rfl

@[simp] theorem State.pressTest_table (s : State) : s.pressTest.table = s.table :=
  (congrArg State.table s.pressTest_frame :)
@[simp] theorem State.pressTest_trk (s : State) : s.pressTest.trk = s.trk :=
  (congrArg State.trk s.pressTest_frame :)
@[simp] theorem State.pressTest_stg (s : State) : s.pressTest.stg = s.stg :=
  (congrArg State.stg s.pressTest_frame :)
@[simp] theorem State.pressTest_dlv (s : State) : s.pressTest.dlv = s.dlv :=
  (congrArg State.dlv s.pressTest_frame :)
@[simp] theorem State.pressTest_zones (s : State) : s.pressTest.zones = s.zones :=
  (congrArg State.zones s.pressTest_frame :)

@[simp] theorem State.bpTests_stg (s : State) : s.bpTests.stg = s.stg := rfl
@[simp] theorem State.bpTests_dlv (s : State) : s.bpTests.dlv = s.dlv := rfl
@[simp] theorem State.bpTests_press (s : State) : s.bpTests.press = s.press := rfl
@[simp] theorem State.bpTests_table (s : State) : s.bpTests.table = s.table := rfl
@[simp] theorem State.bpTests_zones (s : State) : s.bpTests.zones = s.zones := rfl

/-- A zone's timers that stop are the wait of the staging side and that of the jacket stop. -/
theorem State.stopZoneTimers_frame (s : State) (z : Zone) :
    { s.stopZoneTimers z with
      stg := { (s.stopZoneTimers z).stg with side := s.stg.side }
      dlv := { (s.stopZoneTimers z).dlv with stop := s.dlv.stop } } = s := by
  unfold State.stopZoneTimers
  split
  · split <;> rfl
  · split <;> rfl
  all_goals rfl

theorem State.setZone_frame (s : State) (z : Zone) (st : ZoneState) :
    { s.setZone z st with
      zones := s.zones
      stg := { (s.setZone z st).stg with side := s.stg.side }
      dlv := { (s.setZone z st).dlv with stop := s.dlv.stop } } = s :=
  (congrArg (fun t : State => { t with zones := s.zones }) (State.stopZoneTimers_frame
    { s with zones := s.zones.set z { s.zones.get z with state := st } } z) :)

theorem State.fault_frame (s : State) (z : Zone) (c : FaultCode) :
    { s.fault z c with
      zones := s.zones
      stg := { (s.fault z c).stg with side := s.stg.side }
      dlv := { (s.fault z c).dlv with stop := s.dlv.stop } } = s := by
  have hstop (zs : Zones) : { ({ s with zones := zs } : State).stopZoneTimers z with
      zones := s.zones
      stg := { (({ s with zones := zs } : State).stopZoneTimers z).stg with side := s.stg.side }
      dlv := { (({ s with zones := zs } : State).stopZoneTimers z).dlv with stop := s.dlv.stop } } = s :=
    (congrArg (fun t : State => { t with zones := s.zones }) (State.stopZoneTimers_frame _ z) :)
  unfold State.fault
  dsimp only
  split
  case h_1 | h_2 | h_3 => exact hstop _
  case h_4 => rfl
  case h_5 => split <;> rfl

theorem State.drainTest_frame (s : State) (z : Zone) :
    { s.drainTest z with
      zones := s.zones
      stg := { (s.drainTest z).stg with side := s.stg.side }
      dlv := { (s.drainTest z).dlv with stop := s.dlv.stop } } = s := by
  unfold State.drainTest
  split
  · exact s.setZone_frame z .stopped
  · rfl

@[simp] theorem State.stopZoneTimers_zones (s : State) (z : Zone) :
    (s.stopZoneTimers z).zones = s.zones :=
  (congrArg State.zones (s.stopZoneTimers_frame z) :)

@[simp] theorem State.setZone_table (s : State) (z : Zone) (st : ZoneState) :
    (s.setZone z st).table = s.table :=
  (congrArg State.table (s.setZone_frame z st) :)
@[simp] theorem State.setZone_trk (s : State) (z : Zone) (st : ZoneState) :
    (s.setZone z st).trk = s.trk :=
  (congrArg State.trk (s.setZone_frame z st) :)
@[simp] theorem State.setZone_press (s : State) (z : Zone) (st : ZoneState) :
    (s.setZone z st).press = s.press :=
  (congrArg State.press (s.setZone_frame z st) :)
@[simp] theorem State.setZone_stg_queue (s : State) (z : Zone) (st : ZoneState) :
    (s.setZone z st).stg.queue = s.stg.queue :=
  (congrArg (fun t : State => t.stg.queue) (s.setZone_frame z st) :)
@[simp] theorem State.setZone_stg_cases (s : State) (z : Zone) (st : ZoneState) :
    (s.setZone z st).stg.cases = s.stg.cases :=
  (congrArg (fun t : State => t.stg.cases) (s.setZone_frame z st) :)
@[simp] theorem State.setZone_stg_casing (s : State) (z : Zone) (st : ZoneState) :
    (s.setZone z st).stg.casing = s.stg.casing :=
  (congrArg (fun t : State => t.stg.casing) (s.setZone_frame z st) :)
@[simp] theorem State.setZone_stg_overdue (s : State) (z : Zone) (st : ZoneState) :
    (s.setZone z st).stg.overdue = s.stg.overdue :=
  (congrArg (fun t : State => t.stg.overdue) (s.setZone_frame z st) :)
@[simp] theorem State.setZone_dlv_jackets (s : State) (z : Zone) (st : ZoneState) :
    (s.setZone z st).dlv.jackets = s.dlv.jackets :=
  (congrArg (fun t : State => t.dlv.jackets) (s.setZone_frame z st) :)
@[simp] theorem State.setZone_dlv_overdue (s : State) (z : Zone) (st : ZoneState) :
    (s.setZone z st).dlv.overdue = s.dlv.overdue :=
  (congrArg (fun t : State => t.dlv.overdue) (s.setZone_frame z st) :)
@[simp] theorem State.setZone_dlv_gate (s : State) (z : Zone) (st : ZoneState) :
    (s.setZone z st).dlv.gate = s.dlv.gate :=
  (congrArg (fun t : State => t.dlv.gate) (s.setZone_frame z st) :)

@[simp] theorem State.fault_table (s : State) (z : Zone) (c : FaultCode) :
    (s.fault z c).table = s.table :=
  (congrArg State.table (s.fault_frame z c) :)
@[simp] theorem State.fault_trk (s : State) (z : Zone) (c : FaultCode) :
    (s.fault z c).trk = s.trk :=
  (congrArg State.trk (s.fault_frame z c) :)
@[simp] theorem State.fault_press (s : State) (z : Zone) (c : FaultCode) :
    (s.fault z c).press = s.press :=
  (congrArg State.press (s.fault_frame z c) :)
@[simp] theorem State.fault_stg_queue (s : State) (z : Zone) (c : FaultCode) :
    (s.fault z c).stg.queue = s.stg.queue :=
  (congrArg (fun t : State => t.stg.queue) (s.fault_frame z c) :)
@[simp] theorem State.fault_stg_cases (s : State) (z : Zone) (c : FaultCode) :
    (s.fault z c).stg.cases = s.stg.cases :=
  (congrArg (fun t : State => t.stg.cases) (s.fault_frame z c) :)
@[simp] theorem State.fault_stg_casing (s : State) (z : Zone) (c : FaultCode) :
    (s.fault z c).stg.casing = s.stg.casing :=
  (congrArg (fun t : State => t.stg.casing) (s.fault_frame z c) :)
@[simp] theorem State.fault_stg_overdue (s : State) (z : Zone) (c : FaultCode) :
    (s.fault z c).stg.overdue = s.stg.overdue :=
  (congrArg (fun t : State => t.stg.overdue) (s.fault_frame z c) :)
@[simp] theorem State.fault_dlv_jackets (s : State) (z : Zone) (c : FaultCode) :
    (s.fault z c).dlv.jackets = s.dlv.jackets :=
  (congrArg (fun t : State => t.dlv.jackets) (s.fault_frame z c) :)
@[simp] theorem State.fault_dlv_overdue (s : State) (z : Zone) (c : FaultCode) :
    (s.fault z c).dlv.overdue = s.dlv.overdue :=
  (congrArg (fun t : State => t.dlv.overdue) (s.fault_frame z c) :)
@[simp] theorem State.fault_dlv_gate (s : State) (z : Zone) (c : FaultCode) :
    (s.fault z c).dlv.gate = s.dlv.gate :=
  (congrArg (fun t : State => t.dlv.gate) (s.fault_frame z c) :)
@[simp] theorem State.fault_orders (s : State) (z : Zone) (c : FaultCode) :
    (s.fault z c).orders = s.orders :=
  (congrArg State.orders (s.fault_frame z c) :)
@[simp] theorem State.fault_io (s : State) (z : Zone) (c : FaultCode) :
    (s.fault z c).io = s.io :=
  (congrArg State.io (s.fault_frame z c) :)
@[simp] theorem State.fault_cfg (s : State) (z : Zone) (c : FaultCode) :
    (s.fault z c).cfg = s.cfg :=
  (congrArg State.cfg (s.fault_frame z c) :)
@[simp] theorem State.fault_gauge (s : State) (z : Zone) (c : FaultCode) :
    (s.fault z c).gauge = s.gauge :=
  (congrArg State.gauge (s.fault_frame z c) :)
@[simp] theorem State.fault_clock (s : State) (z : Zone) (c : FaultCode) :
    (s.fault z c).clock = s.clock :=
  (congrArg State.clock (s.fault_frame z c) :)
@[simp] theorem State.fault_readers (s : State) (z : Zone) (c : FaultCode) :
    (s.fault z c).readers = s.readers :=
  (congrArg State.readers (s.fault_frame z c) :)

@[simp] theorem State.drainTest_table (s : State) (z : Zone) :
    (s.drainTest z).table = s.table :=
  (congrArg State.table (s.drainTest_frame z) :)
@[simp] theorem State.drainTest_trk (s : State) (z : Zone) :
    (s.drainTest z).trk = s.trk :=
  (congrArg State.trk (s.drainTest_frame z) :)
@[simp] theorem State.drainTest_press (s : State) (z : Zone) :
    (s.drainTest z).press = s.press :=
  (congrArg State.press (s.drainTest_frame z) :)
@[simp] theorem State.drainTest_stg_queue (s : State) (z : Zone) :
    (s.drainTest z).stg.queue = s.stg.queue :=
  (congrArg (fun t : State => t.stg.queue) (s.drainTest_frame z) :)
@[simp] theorem State.drainTest_stg_cases (s : State) (z : Zone) :
    (s.drainTest z).stg.cases = s.stg.cases :=
  (congrArg (fun t : State => t.stg.cases) (s.drainTest_frame z) :)
@[simp] theorem State.drainTest_stg_casing (s : State) (z : Zone) :
    (s.drainTest z).stg.casing = s.stg.casing :=
  (congrArg (fun t : State => t.stg.casing) (s.drainTest_frame z) :)
@[simp] theorem State.drainTest_stg_overdue (s : State) (z : Zone) :
    (s.drainTest z).stg.overdue = s.stg.overdue :=
  (congrArg (fun t : State => t.stg.overdue) (s.drainTest_frame z) :)
@[simp] theorem State.drainTest_dlv_jackets (s : State) (z : Zone) :
    (s.drainTest z).dlv.jackets = s.dlv.jackets :=
  (congrArg (fun t : State => t.dlv.jackets) (s.drainTest_frame z) :)
@[simp] theorem State.drainTest_dlv_overdue (s : State) (z : Zone) :
    (s.drainTest z).dlv.overdue = s.dlv.overdue :=
  (congrArg (fun t : State => t.dlv.overdue) (s.drainTest_frame z) :)
@[simp] theorem State.drainTest_dlv_gate (s : State) (z : Zone) :
    (s.drainTest z).dlv.gate = s.dlv.gate :=
  (congrArg (fun t : State => t.dlv.gate) (s.drainTest_frame z) :)

@[simp] theorem State.drainTests_table (s : State) :
    s.drainTests.table = s.table := by simp [State.drainTests]
@[simp] theorem State.drainTests_trk (s : State) :
    s.drainTests.trk = s.trk := by simp [State.drainTests]
@[simp] theorem State.drainTests_press (s : State) :
    s.drainTests.press = s.press := by simp [State.drainTests]
@[simp] theorem State.drainTests_stg_queue (s : State) :
    s.drainTests.stg.queue = s.stg.queue := by simp [State.drainTests]
@[simp] theorem State.drainTests_stg_cases (s : State) :
    s.drainTests.stg.cases = s.stg.cases := by simp [State.drainTests]
@[simp] theorem State.drainTests_stg_casing (s : State) :
    s.drainTests.stg.casing = s.stg.casing := by simp [State.drainTests]
@[simp] theorem State.drainTests_stg_overdue (s : State) :
    s.drainTests.stg.overdue = s.stg.overdue := by simp [State.drainTests]
@[simp] theorem State.drainTests_dlv_jackets (s : State) :
    s.drainTests.dlv.jackets = s.dlv.jackets := by simp [State.drainTests]
@[simp] theorem State.drainTests_dlv_overdue (s : State) :
    s.drainTests.dlv.overdue = s.dlv.overdue := by simp [State.drainTests]
@[simp] theorem State.drainTests_dlv_gate (s : State) :
    s.drainTests.dlv.gate = s.dlv.gate := by simp [State.drainTests]

@[simp] theorem State.announce_press (s : State) : s.announce.press = s.press := by
  simp [State.announce]
@[simp] theorem State.announce_zones (s : State) : s.announce.zones = s.zones := by
  simp [State.announce]
@[simp] theorem State.follow_press (s : State) : s.follow.press = s.press := by simp [State.follow]

/-! ### The zones -/

theorem State.zones_setZone (s : State) (z y : Zone) (st : ZoneState) :
    (s.setZone z st).zones.get y =
      if y = z then { s.zones.get z with state := st } else s.zones.get y := by
  rw [State.setZone, State.stopZoneTimers_zones, Zones.get_set]

/-- A fault report by the state of its zone (R152). -/
theorem State.zones_fault (s : State) (z y : Zone) (c : FaultCode) :
    (s.fault z c).zones.get y = if y = z then
      (match (s.zones.get z).state, (s.zones.get z).code with
        | .stopped, _ | .running, _ | .draining, _ =>
          { s.zones.get z with state := .faulted, code := some c }
        | .faulted, _ => { s.zones.get z with further := true }
        | .tripped, none => { s.zones.get z with code := some c }
        | .tripped, some _ => { s.zones.get z with further := true }) else s.zones.get y := by
  unfold State.fault
  dsimp only
  split
  case h_1 h | h_2 h | h_3 h => rw [State.stopZoneTimers_zones, Zones.get_set, h]
  case h_4 h => rw [Zones.get_set, h]
  case h_5 h =>
    split
    · next hcode => rw [Zones.get_set, h, hcode]
    · next hcode => rw [Zones.get_set, h, hcode]

/-- A zone is FAULTED after a fault report, or TRIPPED if it was. -/
theorem State.zoneState_fault (s : State) (z : Zone) (c : FaultCode) :
    (s.fault z c).zoneState z = if s.zoneState z = .tripped then .tripped else .faulted := by
  rw [State.zoneState, State.zones_fault, if_pos rfl, State.zoneState]
  cases h : (s.zones.get z).state with
  | tripped => cases hcode : (s.zones.get z).code <;> simp [h]
  | _ => simp [h]

end Sys2Proof.Machine
end

section
/-! SUPPORT. The configuration's two codecs, SET POINT, REARM OUTPUTS, and the requests of the Order Table;
the proofs of the statements about them. -/

namespace Sys2Proof.Machine

/-! ### The configuration sent and taken (R166) -/

theorem fillBody_num (draw : Nat) (l : List (Nat × Nat)) :
    fillBody draw (l.flatMap (fun p => num p.1 p.2)) = l.flatMap (fun p => beBytes p.1 p.2) := by
  have hnum : l.flatMap (fun p => num p.1 p.2) = (l.flatMap (fun p => beBytes p.1 p.2)).map some := by
    rw [List.map_flatMap]
    rfl
  rw [hnum, fillBody_some]

/-- A value within its row's range fits the row's bytes. -/
theorem cfgRows_fit : ∀ row ∈ cfgRows, row.2.2 < 256 ^ row.1 := by decide

theorem cfgOfValues_cfgValues (c : Cfg) : cfgOfValues (cfgValues c) = c := rfl

theorem length_cfgValues (c : Cfg) : (cfgValues c).length = cfgRows.length := rfl

/-- Values in range, each with its width. -/
theorem fits_of_cfgInRange {v : List Nat} (h : cfgInRange v = true) :
    ∀ p ∈ v.zip cfgRows, p.1 < 256 ^ p.2.1 := by
  intro p hp
  have hin : inRange p.2.2.1 p.2.2.2 p.1 = true := List.all_eq_true.1 h p hp
  obtain ⟨-, hle⟩ := (inRange_eq_true _ _ _).1 hin
  exact hle.trans_lt (cfgRows_fit p.2 (List.of_mem_zip hp).2)

/-- Settles O15: the body is the values in their widths, and the values are the configuration's fields. -/
theorem configurationRoundTrip : Obligations.ConfigurationRoundTrip := by
  intro c draw h
  refine ⟨?_, cfgOfValues_cfgValues c⟩
  let l := ((cfgValues c).zip cfgRows).map (fun p => (p.2.1, p.1))
  have hbody : cfgBody c = l.flatMap (fun p => num p.1 p.2) := by
    rw [List.flatMap_map]
    rfl
  have hwidths : l.map (·.1) = cfgRows.map (·.1) := rfl
  have hvalues : l.map (·.2) = cfgValues c := rfl
  have hfits : ∀ p ∈ l, p.2 < 256 ^ p.1 := by
    rw [List.forall_mem_map]
    exact fits_of_cfgInRange h
  rw [hbody, fillBody_num, ← hwidths, splitFields_beBytes l hfits, hvalues]

/-! ### REARM OUTPUTS (R157) -/

theorem ZoneCtl.rearm_eq (k : ZoneCtl) : k.rearm =
    if k.state = .tripped then { k with state := if k.code = none then .stopped else .faulted } else k := by
  unfold ZoneCtl.rearm
  cases k.code <;> rfl

/-- The outputs armed and the tripped zones moved, before the units test. -/
def State.rearmed (s : State) : State := { s with
  io := { s.io with armed := true }
  zones := ⟨s.zones.a.rearm, s.zones.b.rearm, s.zones.p.rearm, s.zones.c.rearm⟩ }

theorem State.rearm_eq (s : State) :
    s.rearm = s.rearmed.jacketDecide.jacketReleaseTest.pressTest := rfl

theorem decides_rearm (s : State) : Decides s.rearmed s.rearm :=
  ((decides_jacketDecide _).trans (decides_jacketReleaseTest _)).trans (decides_pressTest _)

theorem State.zones_rearm (s : State) (z : Zone) : s.rearm.zones.get z = (s.zones.get z).rearm := by
  have hzones : s.rearm.zones = s.rearmed.zones := by simp [State.rearm_eq]
  rw [hzones]
  cases z <;> rfl

/-- Settles O18: the handler's branches, and the zones that no decision after the arming moves. -/
theorem rearmOutputs : Obligations.RearmOutputs := by
  intro s hrx
  refine ⟨fun hopen => exec_request (h := onRearmOutputs) hrx rfl ?_,
    fun hclosed harmed => exec_request (h := onRearmOutputs) hrx rfl ?_,
    fun hclosed harmed => ⟨s.rearm, exec_request (h := onRearmOutputs) hrx rfl ?_, ?_, fun z => ?_⟩⟩
  · simp [onRearmOutputs, noBody, hopen, State.refused]
  · simp [onRearmOutputs, noBody, hclosed, harmed]
  · simp [onRearmOutputs, noBody, hclosed, harmed]
  · have h := decides_rearm s
    simp only [State.rearmed, ZoneCtl.rearm_eq] at h
    exact h
  · rw [State.zones_rearm, ZoneCtl.rearm_eq]

/-! ### SET POINT (R159) -/

theorem pointModeOfCode_code (m : PointMode) :
    pointModeOfCode (BitVec.ofNat 8 (pointModeCode m)).toNat = some m := by cases m <;> rfl

theorem flagOfCode_code (u : Bool) : flagOfCode (BitVec.ofNat 8 (flagCode u)).toNat = some u := by
  cases u <;> rfl

theorem polarityOfCode_code (p : Polarity) :
    polarityOfCode (BitVec.ofNat 8 (polarityCode p)).toNat = some p := by cases p <;> rfl

theorem splitFields_four (a b c d : Byte) :
    splitFields [1, 1, 1, 1] [a, b, c, d] = some [a.toNat, b.toNat, c.toNat, d.toNat] := by
  rw [splitFields_byte, splitFields_byte, splitFields_byte, splitFields_byte]
  rfl

/-- A point in range with its settings, in its four bytes. -/
theorem onSetPoint_eq (s : State) {n : Nat} (h1 : 1 ≤ n) (h48 : n ≤ 48) (m : PointMode) (u : Bool)
    (p : Polarity) :
    onSetPoint [BitVec.ofNat 8 n, BitVec.ofNat 8 (pointModeCode m), BitVec.ofNat 8 (flagCode u),
      BitVec.ofNat 8 (polarityCode p)] s =
      if s.pointInUse n then s.refused .wrongState
      else (s.applyPoint n m u p, ⟨.ok, settingsBody (storedPoint (s.point n) m u p)⟩) := by
  have hn : (BitVec.ofNat 8 n).toNat = n := by
    rw [BitVec.toNat_ofNat]
    omega
  have hin : inRange 1 48 n = true := (inRange_eq_true _ _ _).2 ⟨h1, h48⟩
  simp only [onSetPoint, splitFields_four, hn, hin, pointModeOfCode_code,
    flagOfCode_code, polarityOfCode_code]

theorem State.pointInUse_iff (s : State) (n : Nat) :
    s.pointInUse n = true ↔ ∃ z, s.active z = true ∧ n ∈ zonePoints z := by
  simp only [State.pointInUse, Zone.any_iff, Bool.and_eq_true, List.contains_iff_mem]

/-- What a change of a reading leaves of the points. -/
theorem State.points_refreshGuard (s : State) : s.refreshGuard.io.points = s.io.points := by
  rw [State.refreshGuard_eq]
  split
  · rw [(apart_trip s.takeGuard).io]
    rfl
  · rfl

theorem State.readingChanged_guard (s : State) (before : Bool) :
    s.readingChanged 27 before = if s.reads 27 = before then s else s.refreshGuard := rfl

theorem State.points_readingChanged (s : State) (n : Nat) (before : Bool) :
    (s.readingChanged n before).io.points = s.io.points := by
  by_cases hn : n = 27
  · subst hn
    rw [State.readingChanged_guard]
    split <;> [rfl; exact s.points_refreshGuard]
  · rw [(calm_readingChanged s before hn).io]

theorem phaseBelt?_output : ∀ n < 49, 28 ≤ n → phaseBelt? n = none ∧ eyeOf? n = none := by decide

theorem State.onHandshake_output (s : State) {n : Nat} (h : 28 ≤ n) : s.onHandshake n = s := by
  unfold State.onHandshake
  split <;> first | omega | rfl

/-- A reading that stays, and the reading of an output point, hand on no change. -/
theorem State.readingChanged_none {s : State} {n : Nat} {before : Bool} (h48 : n ≤ 48)
    (h : s.reads n = before ∨ 28 ≤ n) : s.readingChanged n before = s := by
  rcases h with h | h
  · exact if_pos h
  · obtain ⟨hphase, heye⟩ := phaseBelt?_output n (by omega) h
    have hn : n ≠ 27 := by omega
    simp only [State.readingChanged, hphase, heye, if_neg hn, s.onHandshake_output h, ite_self]

/-! ### The trip's zones (R156) -/

@[simp] theorem State.countCaseEjection_zones (s : State) (i : Identity) :
    (s.countCaseEjection i).zones = s.zones := by cases i <;> rfl

@[simp] theorem State.countJacketEjection_zones (s : State) (i : Identity) :
    (s.countJacketEjection i).zones = s.zones := by cases i <;> rfl

@[simp] theorem State.removeEjectedCase_zones (s : State) : s.removeEjectedCase.zones = s.zones := by
  unfold State.removeEjectedCase
  split <;> simp

@[simp] theorem State.removeEjectedJacket_zones (s : State) :
    s.removeEjectedJacket.zones = s.zones := by
  unfold State.removeEjectedJacket
  split <;> simp

@[simp] theorem State.tripStagingSide_zones (s : State) : s.tripStagingSide.zones = s.zones := by
  unfold State.tripStagingSide
  split <;> simp

@[simp] theorem State.tripCasing_zones (s : State) : s.tripCasing.zones = s.zones := by
  unfold State.tripCasing
  split <;> simp

@[simp] theorem State.tripDelivery_zones (s : State) : s.tripDelivery.zones = s.zones := by
  unfold State.tripDelivery
  split <;> simp

/-- Every zone is TRIPPED with its code and flag kept. -/
theorem State.trip_zones (s : State) (z : Zone) :
    s.trip.zones.get z = { s.zones.get z with state := .tripped } := by
  have hzones : s.trip.zones = s.allTripped.zones := by simp [State.trip_eq]
  rw [hzones, State.allTripped_zones]

theorem State.trip_zoneState (s : State) (z : Zone) : s.trip.zoneState z = .tripped := by
  rw [State.zoneState, State.trip_zones]

theorem State.trip_io (s : State) : s.trip.io = { s.io with armed := false } := (apart_trip s).io

/-- Settles O17: the settings stored, and what a changed reading of the guard's point brings. -/
theorem setPoint : Obligations.SetPoint := by
  intro s n m u p hrx h1 h48 hpoints body new reply
  have hset : s.setPoint n (storedPoint (s.point n) m u p) =
      { s with io := { s.io with points := s.io.points.set (n - 1) new } } := rfl
  have hnew : (s.setPoint n new).point n = new := by
    rw [State.point_setPoint_same, if_pos (by omega)]
  have hreads : (s.setPoint n new).reads n = new.reading := by rw [State.reads, hnew]
  have hhandler := onSetPoint_eq s h1 h48 m u p
  refine ⟨fun hused => exec_request (h := onSetPoint) hrx rfl ?_, fun hfree =>
    ⟨s.applyPoint n m u p, exec_request (h := onSetPoint) hrx rfl ?_, ?_, fun k hk hkn => ?_,
      fun hsame => ?_, fun hn hoff hon hclosed => ?_⟩⟩
  · rw [hhandler, if_pos ((s.pointInUse_iff n).2 hused)]
    rfl
  · have hnot : ¬s.pointInUse n = true := fun h => by
      obtain ⟨z, hz, hmem⟩ := (s.pointInUse_iff n).1 h
      exact hfree z hz hmem
    rw [hhandler, if_neg hnot]
    rfl
  · rw [State.point, State.applyPoint, State.points_readingChanged]
    exact hnew
  · rw [State.point, State.applyPoint, State.points_readingChanged]
    exact s.point_setPoint_ne new (by omega)
  · refine State.readingChanged_none h48 ?_
    rwa [hset, ← hset, show (s.setPoint n (storedPoint (s.point n) m u p)).reads n = new.reading from hreads]
  · subst hn
    have htrip : s.applyPoint 27 m u p = (s.setPoint 27 new).takeGuard.trip := by
      have hbefore : s.reads 27 = true := hon
      show (s.setPoint 27 new).readingChanged 27 (s.reads 27) = _
      rw [State.readingChanged_guard, hreads, hoff, hbefore, if_neg (by decide), State.refreshGuard_eq,
        hreads, hoff, if_pos]
      rw [State.setPoint_io_guardClosed, hclosed]
      rfl
    rw [htrip, State.trip_io]
    exact ⟨hreads.trans hoff, rfl, State.trip_zoneState _⟩

end Sys2Proof.Machine
end

section
/-! SUPPORT. LOAD, AMEND, HOLD, RESUME and CLOSE ORDER; the proofs of the statements about them. -/

namespace Sys2Proof.Machine

/-! ### LOAD ORDER (R14, R15, R16) -/

/-- The fields of a LOAD ORDER, each with its width (2.2). -/
def loadFields (t : Template) (copies : Nat) : List (Nat × Nat) :=
  [(4, t.order), (1, matchCode t.mode), (2, copies), (2, t.trim), (2, t.lengthTol), (2, t.board),
    (1, t.rounding), (2, t.spine), (1, t.spineTol), (1, flagCode t.looseAccept), (4, t.dwell),
    (1, jacketModeCode t.jacket), (1, flagCode t.proofFirst)]

theorem orderTemplateBody_eq (t : Template) (copies : Nat) :
    orderTemplateBody t copies = (loadFields t copies).flatMap (fun p => num p.1 p.2) := by
  simp [orderTemplateBody, loadFields, one, List.append_assoc]

theorem matchCode_lt (m : MatchMode) : matchCode m < 256 := by cases m <;> decide

theorem jacketModeCode_lt (m : JacketMode) : jacketModeCode m < 256 := by cases m <;> decide

theorem matchOfCode_code (m : MatchMode) : matchOfCode (matchCode m) = some m := by cases m <;> rfl

theorem flagOfCode_flagCode (b : Bool) : flagOfCode (flagCode b) = some b := by cases b <;> rfl

theorem jacketModeOfCode_code (m : JacketMode) : jacketModeOfCode (jacketModeCode m) = some m := by
  cases m <;> rfl

theorem copies_le {t : Template} {copies : Nat} (h : t.InRange copies) : copies ≤ maxCopies t.mode := by
  obtain ⟨-, hle⟩ := h.copies
  unfold maxCopies
  exact hle

theorem maxCopies_le (m : MatchMode) : maxCopies m ≤ 9999 := by cases m <;> decide

theorem loadFields_fit {t : Template} {copies : Nat} (h : t.InRange copies) :
    ∀ p ∈ loadFields t copies, p.2 < 256 ^ p.1 := by
  have hmax := (copies_le h).trans (maxCopies_le t.mode)
  obtain ⟨horder, -, htrim, htol, hboard, hround, hspine, hspineTol, hdwell⟩ := h
  have hmode := matchCode_lt t.mode
  have hloose := flagCode_lt t.looseAccept
  have hjacket := jacketModeCode_lt t.jacket
  have hproof := flagCode_lt t.proofFirst
  simp only [loadFields, List.forall_mem_cons]
  refine ⟨?_, ?_, ?_, ?_, ?_, ?_, ?_, ?_, ?_, ?_, ?_, ?_, ?_, nofun⟩ <;> omega

theorem templateOf_loadFields {t : Template} {copies : Nat} (h : t.InRange copies) :
    templateOf ((loadFields t copies).map (·.2)) = some (t, copies) := by
  have hmax := copies_le h
  obtain ⟨horder, ⟨hone, -⟩, htrim, htol, hboard, hround, hspine, hspineTol, hdwell⟩ := h
  simp [loadFields, templateOf, matchOfCode_code, flagOfCode_flagCode, jacketModeOfCode_code, *]

theorem onLoadOrder_eq (s : State) {t : Template} {copies : Nat} (h : t.InRange copies) :
    onLoadOrder (fillBody 0 (orderTemplateBody t copies)) s =
      match s.order? t.order, s.lowestFreeEntry? with
      | some _, _ => s.refused .exists_
      | none, none => s.refused .tableFull
      | none, some slot =>
        ((s.loadOrder slot t copies).announce,
          ⟨.ok, num 1 slot ++ num 1 (s.earlyRecords t.order).length ++
            num 1 ((s.loadOrder slot t copies).boundAmong (s.earlyRecords t.order))⟩) := by
  have hsplit : splitFields loadWidths (fillBody 0 (orderTemplateBody t copies)) =
      some ((loadFields t copies).map (·.2)) := by
    rw [orderTemplateBody_eq, fillBody_num]
    exact splitFields_beBytes (loadFields t copies) (loadFields_fit h)
  simp only [onLoadOrder, hsplit, templateOf_loadFields h] <;> rfl

theorem State.lowestFreeEntry?_eq_none {s : State}
    (h : ∀ n, 1 ≤ n → n ≤ 24 → ∃ o ∈ s.orders, o.slot = n) : s.lowestFreeEntry? = none := by
  rw [State.lowestFreeEntry?, List.find?_eq_none]
  intro n hn
  obtain ⟨k, hk, rfl⟩ := List.mem_map.1 hn
  rw [List.mem_range] at hk
  obtain ⟨o, ho, hslot⟩ := h (k + 1) (by omega) (by omega)
  simpa using ⟨o, ho, hslot⟩

/-- The lowest number that holds a test, of those counted from 1. -/
theorem find?_counted {p : Nat → Bool} {m n : Nat} (h1 : 1 ≤ n) (hm : n ≤ m) (hn : p n = true)
    (hbelow : ∀ k, 1 ≤ k → k < n → p k = false) : ((List.range m).map (· + 1)).find? p = some n := by
  rw [List.find?_eq_some_iff_getElem]
  refine ⟨hn, n - 1, by simp; omega, by simp; omega, fun j hj => ?_⟩
  simpa using hbelow (j + 1) (by omega) (by omega)

theorem State.lowestFreeEntry?_eq_some {s : State} {n : Nat} (h1 : 1 ≤ n) (h24 : n ≤ 24)
    (hfree : ∀ o ∈ s.orders, o.slot ≠ n)
    (hbelow : ∀ k, 1 ≤ k → k < n → ∃ o ∈ s.orders, o.slot = k) : s.lowestFreeEntry? = some n :=
  find?_counted h1 h24 (by simpa using hfree) fun k hk hkn => by simpa using hbelow k hk hkn

/-- Settles O19: the handler's branches, with the entry made and the early records identified. -/
theorem loadOrder : Obligations.LoadOrder := by
  intro s t copies hrx h body
  have hhandler := onLoadOrder_eq s h
  refine ⟨fun o ho => exec_request (h := onLoadOrder) hrx rfl ?_,
    fun hnew hfull => exec_request (h := onLoadOrder) hrx rfl ?_,
    fun n hnew h1 h24 hfree hbelow => ?_⟩
  · rw [hhandler, ho]
    rfl
  · rw [hhandler, hnew, State.lowestFreeEntry?_eq_none hfull]
    rfl
  · rw [hnew, State.lowestFreeEntry?_eq_some h1 h24 hfree hbelow] at hhandler
    exact ⟨_, exec_request (h := onLoadOrder) hrx rfl hhandler, decides_announce _⟩

/-! ### AMEND ORDER (R19) -/

/-- Entries of one number changed, which keep that number. -/
theorem State.order?_updOrder_of {s : State} {n : Nat} {f : Order → Order}
    (hf : ∀ o, o.tmpl.order = n → (f o).tmpl.order = n) (q : Nat) :
    (s.updOrder n f).order? q = (s.order? q).map (fun o => if o.tmpl.order == n then f o else o) := by
  have hfix (o : Order) : (if o.tmpl.order == n then f o else o).tmpl.order = o.tmpl.order := by
    split
    · next h => rw [hf o (by simpa using h), eq_of_beq h]
    · rfl
  have hupd : s.updOrder n f = s.updOrder n (fun o => if o.tmpl.order == n then f o else o) := by
    unfold State.updOrder
    congr 1
    refine List.map_congr_left fun o _ => ?_
    split <;> simp_all
  rw [hupd, State.order?_updOrder _ _ _ _ hfix]
  congr 1
  funext o
  split <;> simp_all

theorem splitFields_amend {n : Nat} {a : Amendment} (hn : n < 4294967296) (hspine : a.spineTol < 256)
    (hlen : a.lengthTol < 65536) (hdwell : a.dwell < 4294967296) (hcopies : a.copies < 65536) :
    splitFields amendWidths (amendBytes n a) = some [n, a.spineTol, a.lengthTol,
      flagCode a.looseAccept, a.dwell, jacketModeCode a.jacket, flagCode a.proofFirst, a.copies] := by
  have hloose := flagCode_lt a.looseAccept
  have hjacket := jacketModeCode_lt a.jacket
  have hproof := flagCode_lt a.proofFirst
  simp only [amendBytes, amendWidths, List.append_assoc]
  rw [splitFields_append _ _ hn, splitFields_append _ _ hspine, splitFields_append _ _ hlen,
    splitFields_append _ _ hloose, splitFields_append _ _ hdwell, splitFields_append _ _ hjacket,
    splitFields_append _ _ hproof, splitFields_single hcopies]
  rfl

/-- The template with the fields of an amendment. -/
def Amendment.template (a : Amendment) (k : Template) : Template :=
  { k with
    spineTol := a.spineTol
    lengthTol := a.lengthTol
    looseAccept := a.looseAccept
    dwell := a.dwell
    jacket := a.jacket
    proofFirst := a.proofFirst }

theorem amended_eq (o : Order) (n : Nat) (a : Amendment) :
    amended o [n, a.spineTol, a.lengthTol, flagCode a.looseAccept, a.dwell, jacketModeCode a.jacket,
      flagCode a.proofFirst, a.copies] =
      if (a.spineTol ≤ 200 ∧ (20 ≤ a.lengthTol ∧ a.lengthTol ≤ 500) ∧
        (2000 ≤ a.dwell ∧ a.dwell ≤ 600000) ∧ o.copies ≤ a.copies ∧ a.copies ≤ maxCopies o.tmpl.mode)
      then some (a.template o.tmpl, a.copies) else none := by
  simp only [amended, flagOfCode_flagCode, jacketModeOfCode_code, Bool.and_eq_true, inRange_eq_true,
    and_assoc, Nat.zero_le, true_and]
  rfl

theorem onAmendOrder_eq (s : State) {n : Nat} {a : Amendment} (hn : n < 4294967296)
    (hspine : a.spineTol < 256) (hlen : a.lengthTol < 65536) (hdwell : a.dwell < 4294967296)
    (hcopies : a.copies < 65536) : onAmendOrder (amendBytes n a) s =
      match s.order? n with
      | none => s.refused .notFound
      | some o =>
        match amended o [n, a.spineTol, a.lengthTol, flagCode a.looseAccept, a.dwell,
          jacketModeCode a.jacket, flagCode a.proofFirst, a.copies] with
        | none => s.refused .outOfRange
        | some (t, copies) =>
          ((s.updOrder o.tmpl.order (fun o => o.amend t copies)).announce, ⟨.ok, []⟩) := by
  simp only [onAmendOrder, splitFields_amend hn hspine hlen hdwell hcopies]
  rfl

/-- An order after an accepted amendment. -/
theorem onAmendOrder_accepted {s : State} {n : Nat} {o : Order} {a : Amendment} (hn : n < 4294967296)
    (ho : s.order? n = some o) (hspine : a.spineTol ≤ 200)
    (hlen : 20 ≤ a.lengthTol ∧ a.lengthTol ≤ 500) (hdwell : 2000 ≤ a.dwell ∧ a.dwell ≤ 600000)
    (hrise : o.copies ≤ a.copies) (hmax : a.copies ≤ maxCopies o.tmpl.mode) :
    onAmendOrder (amendBytes n a) s =
      ((s.updOrder n (fun p => p.amend (a.template o.tmpl) a.copies)).announce, ⟨.ok, []⟩) := by
  have hmax' := hmax.trans (maxCopies_le _)
  rw [onAmendOrder_eq s hn (by omega) (by omega) (by omega) (by omega), ho]
  simp only [amended_eq]
  rw [if_pos ⟨hspine, hlen, hdwell, hrise, hmax⟩, State.number_of_order? ho]

/-- The other entries stand through an amendment, and the entry amended is read back. -/
theorem State.order?_amended {s : State} {n : Nat} {o : Order} {t : Template} (copies : Nat)
    (ho : s.order? n = some o) (ht : t.order = n) :
    (∀ k, k ≠ n → (s.updOrder n (fun p => p.amend t copies)).order? k = s.order? k) ∧
      (s.updOrder n (fun p => p.amend t copies)).order? n = some (o.amend t copies) := by
  have hread := State.order?_updOrder_of (s := s) (f := fun p => p.amend t copies)
    (fun p (_ : p.tmpl.order = n) => ht)
  refine ⟨fun k hk => ?_, ?_⟩
  · rw [hread]
    cases hq : s.order? k with
    | none => rfl
    | some p => simp [State.number_of_order? hq, hk]
  · rw [hread, ho]
    simp [State.number_of_order? ho]

theorem amendOrder_accepted {s : State} {n : Nat} {o : Order} {a : Amendment}
    (hrx : s.link.rx ≠ .answering) (hn : n < 4294967296) (ho : s.order? n = some o)
    (hspine : a.spineTol ≤ 200) (hlen : 20 ≤ a.lengthTol ∧ a.lengthTol ≤ 500)
    (hdwell : 2000 ≤ a.dwell ∧ a.dwell ≤ 600000) (hrise : o.copies ≤ a.copies)
    (hmax : a.copies ≤ maxCopies o.tmpl.mode) :
    ∃ u : State, exec (.amendOrder (amendBytes n a)) s = .next (u.respond 0x11#8 ⟨.ok, []⟩) ∧
      Decides { s with orders := u.orders } u ∧ (∀ k, k ≠ n → u.order? k = s.order? k) ∧
      u.order? n = some (o.amend (a.template o.tmpl) a.copies) := by
  have hhandler := onAmendOrder_accepted hn ho hspine hlen hdwell hrise hmax
  have hdecides := decides_announce (s.updOrder n (fun p => p.amend (a.template o.tmpl) a.copies))
  obtain ⟨hothers, hself⟩ := State.order?_amended (t := a.template o.tmpl) a.copies ho
    (State.number_of_order? ho)
  refine ⟨_, exec_request (h := onAmendOrder) hrx rfl hhandler, ?_, ?_⟩
  · rw [hdecides.orders]
    exact hdecides
  · simp only [State.order?, hdecides.orders]
    exact ⟨hothers, hself⟩

theorem amendOrder_refused {s : State} {n : Nat} {a : Amendment} (hrx : s.link.rx ≠ .answering)
    (hn : n < 4294967296) (hspine : a.spineTol < 256) (hlen : a.lengthTol < 65536)
    (hdwell : a.dwell < 4294967296) (hcopies : a.copies < 65536) :
    (s.order? n = none →
      exec (.amendOrder (amendBytes n a)) s = .next (s.respond 0x11#8 (refuse .notFound))) ∧
    ∀ o, s.order? n = some o →
      ¬(a.spineTol ≤ 200 ∧ (20 ≤ a.lengthTol ∧ a.lengthTol ≤ 500) ∧
        (2000 ≤ a.dwell ∧ a.dwell ≤ 600000) ∧ o.copies ≤ a.copies ∧ a.copies ≤ maxCopies o.tmpl.mode) →
      exec (.amendOrder (amendBytes n a)) s = .next (s.respond 0x11#8 (refuse .outOfRange)) := by
  have hhandler := onAmendOrder_eq s hn hspine hlen hdwell hcopies
  refine ⟨fun ho => exec_request (h := onAmendOrder) hrx rfl ?_,
    fun o ho hout => exec_request (h := onAmendOrder) hrx rfl ?_⟩
  · rw [hhandler, ho]
    rfl
  · rw [hhandler, ho]
    simp only [amended_eq]
    rw [if_neg hout]
    rfl

/-! ### HOLD, RESUME and CLOSE ORDER (R17, R18, R20) -/

/-- What the three requests answer for an order that is not in the table. -/
theorem holdResumeClose_notFound {s : State} {n : Nat} (hrx : s.link.rx ≠ .answering)
    (hn : n < 4294967296) (ho : s.order? n = none) :
    exec (.holdOrder (beBytes 4 n)) s = .next (s.respond 0x12#8 (refuse .notFound)) ∧
    exec (.resumeOrder (beBytes 4 n)) s = .next (s.respond 0x13#8 (refuse .notFound)) ∧
    exec (.closeOrder (beBytes 4 n)) s = .next (s.respond 0x14#8 (refuse .notFound)) := by
  refine ⟨exec_request (h := onHoldOrder) hrx rfl ?_, exec_request (h := onResumeOrder) hrx rfl ?_,
    exec_request (h := onCloseOrder) hrx rfl ?_⟩
  · simp only [onHoldOrder, splitFields_single (w := 4) hn, ho]
    rfl
  · simp only [onResumeOrder, splitFields_single (w := 4) hn, ho]
    rfl
  · simp only [onCloseOrder, splitFields_single (w := 4) hn, ho]
    rfl

theorem onHoldOrder_eq {s : State} {n : Nat} {o : Order} (hn : n < 4294967296)
    (ho : s.order? n = some o) : onHoldOrder (beBytes 4 n) s =
      if o.state = .openOrder then
        ((s.updOrder n (fun o => { o with state := .held })).stagingDecide, ⟨.ok, []⟩)
      else s.refused .wrongState := by
  simp only [onHoldOrder, splitFields_single (w := 4) hn, ho]

theorem onResumeOrder_eq {s : State} {n : Nat} {o : Order} (hn : n < 4294967296)
    (ho : s.order? n = some o) : onResumeOrder (beBytes 4 n) s =
      if o.state = .held then
        ((s.updOrder n (fun o => { o with state := .openOrder })).stagingDecide, ⟨.ok, []⟩)
      else s.refused .wrongState := by
  simp only [onResumeOrder, splitFields_single (w := 4) hn, ho]

theorem onCloseOrder_eq {s : State} {n : Nat} {o : Order} (hn : n < 4294967296)
    (ho : s.order? n = some o) : onCloseOrder (beBytes 4 n) s =
      if 0 < o.counters.inProcess then s.refused .inUse
      else ((s.dropOrder n).announce,
        ⟨.ok, countersBody o.counters ++ one (orderStateCode o.state)⟩) := by
  simp only [onCloseOrder, splitFields_single (w := 4) hn, ho]

/-- Settles O20: the handlers' branches, and the entry amended read back. -/
theorem amendHoldResumeAndCloseOrder : Obligations.AmendHoldResumeAndCloseOrder := by
  refine ⟨fun s n o a hrx hn ho hspine hl hl' hd hd' hrise hmax => ?_,
    fun s n a hrx hn hspine hlen hdwell hcopies => ?_, fun s n hrx hn => ⟨?_, fun o ho => ?_⟩⟩
  · exact amendOrder_accepted hrx hn ho hspine ⟨hl, hl'⟩ ⟨hd, hd'⟩ hrise hmax
  · obtain ⟨hnone, hrange⟩ := amendOrder_refused hrx hn hspine hlen hdwell hcopies
    refine ⟨hnone, fun o ho hout => hrange o ho ?_⟩
    rintro ⟨hs, hl, hd, hrise, hmax⟩
    rcases hout with h | h | h | h | h | h | h
    iterate 6 omega
    exact absurd h (not_lt.2 hmax)
  · exact holdResumeClose_notFound hrx hn
  · have hhold := onHoldOrder_eq hn ho
    have hresume := onResumeOrder_eq hn ho
    have hclose := onCloseOrder_eq hn ho
    refine ⟨fun h => ?_, fun h => ?_, fun h => ?_, fun h => ?_, fun h => ?_, fun h => ?_⟩
    · rw [if_pos h] at hhold
      exact ⟨_, exec_request (h := onHoldOrder) hrx rfl hhold, decides_stagingDecide _⟩
    · rw [if_neg h] at hhold
      exact exec_request (h := onHoldOrder) hrx rfl hhold
    · rw [if_pos h] at hresume
      exact ⟨_, exec_request (h := onResumeOrder) hrx rfl hresume, decides_stagingDecide _⟩
    · rw [if_neg h] at hresume
      exact exec_request (h := onResumeOrder) hrx rfl hresume
    · rw [if_pos h] at hclose
      exact exec_request (h := onCloseOrder) hrx rfl hclose
    · rw [if_neg (by omega)] at hclose
      exact ⟨_, exec_request (h := onCloseOrder) hrx rfl hclose, decides_announce _⟩

end Sys2Proof.Machine
end

section
/-! SUPPORT. Fault reports and CLEAR FAULTS (R152, R153). -/
namespace Sys2Proof.Machine

/-- What clearing leaves of a zone, by its answer (R153). -/
def State.clearedCtl (s : State) (z : Zone) : ZoneCtl :=
  if s.clearAnswer z = .cleared then (s.zones.get z).clear else s.zones.get z

theorem State.clearZone_eq (s : State) (z : Zone) :
    s.clearZone z = { s with zones := (s.clearZone z).zones } := by
  unfold State.clearZone
  split <;> rfl

theorem State.zones_clearZone (s : State) (z y : Zone) :
    (s.clearZone z).zones.get y = if y = z then s.clearedCtl z else s.zones.get y := by
  unfold State.clearZone State.clearedCtl
  split
  · exact Zones.get_set _ _ _ _
  · split
    · next h => rw [h]
    · rfl

/-- The answer for a zone is decided by its own control block and the inputs. -/
theorem State.clearAnswer_congr {s : State} {zs : Zones} {z : Zone} (h : zs.get z = s.zones.get z) :
    ({ s with zones := zs } : State).clearAnswer z = s.clearAnswer z := by
  have hcause : ({ s with zones := zs } : State).causePersists z = s.causePersists z := by
    cases z with
    | a =>
      have ha : zs.a = s.zones.a := h
      simp only [State.causePersists, ha]; rfl
    | b | p | c => rfl
  simp only [State.clearAnswer, State.zoneState, h, hcause]

/-- A zone that has been cleared is not cleared again. -/
theorem State.clearedCtl_clearZone (s : State) (z y : Zone) :
    (s.clearZone z).clearedCtl y = s.clearedCtl y := by
  by_cases hy : y = z ∧ s.clearAnswer z = .cleared
  · obtain ⟨rfl, hc⟩ := hy
    have hget : (s.clearZone y).zones.get y = (s.zones.get y).clear := by
      rw [State.zones_clearZone, if_pos rfl, State.clearedCtl, if_pos hc]
    have hstate : ((s.zones.get y).clear).state = .stopped ∨
        ((s.zones.get y).clear).state = .tripped := by
      rcases State.state_of_cleared hc with h | h
      · exact .inl (if_pos h)
      · exact .inr ((if_neg (fun hf => by cases h.symm.trans hf)).trans h)
    have hnot : (s.clearZone y).clearAnswer y = .notFaulted := by
      unfold State.clearAnswer State.zoneState
      rw [hget]
      rcases hstate with h | h
      · rw [h]
      · rw [h]; rfl
    rw [State.clearedCtl, hnot, if_neg (by decide), hget, State.clearedCtl, if_pos hc]
  · have hget : (s.clearZone z).zones.get y = s.zones.get y := by
      rw [State.zones_clearZone]
      split
      · next h =>
        subst h
        exact if_neg (fun hc => hy ⟨rfl, hc⟩)
      · rfl
    have hans : (s.clearZone z).clearAnswer y = s.clearAnswer y := by
      rw [s.clearZone_eq z]; exact State.clearAnswer_congr hget
    rw [State.clearedCtl, hans, hget, State.clearedCtl]

theorem State.clearZones_eq (zs : List Zone) (s : State) :
    zs.foldl State.clearZone s = { s with zones := (zs.foldl State.clearZone s).zones } := by
  induction zs generalizing s with
  | nil => rfl
  | cons z zs ih =>
    calc zs.foldl State.clearZone (s.clearZone z)
        = { s.clearZone z with zones := (zs.foldl State.clearZone (s.clearZone z)).zones } := ih _
      _ = { s with zones := (zs.foldl State.clearZone (s.clearZone z)).zones } :=
          congrArg (fun t : State => { t with zones := (zs.foldl State.clearZone
            (s.clearZone z)).zones }) (s.clearZone_eq z)

theorem State.zones_clearZones (zs : List Zone) (s : State) (y : Zone) :
    (zs.foldl State.clearZone s).zones.get y =
      if y ∈ zs then s.clearedCtl y else s.zones.get y := by
  induction zs generalizing s with
  | nil => rfl
  | cons z zs ih =>
    rw [List.foldl_cons, ih, State.clearedCtl_clearZone, State.zones_clearZone]
    by_cases hz : y = z
    · subst hz; simp
    · simp [hz]

theorem State.causePersists_iff {s : State} {z : Zone} : s.causePersists z = true ↔
    z = .a ∧ s.zones.a.code = some .eyeBlocked ∧ s.reads 7 = true := by
  simp [State.causePersists, and_assoc]

/-- The answer for a zone by whether its cause persists and whether it holds a fault. -/
theorem State.clearAnswer_eq (s : State) (z : Zone) : s.clearAnswer z =
    if s.zoneState z = .faulted then (if s.causePersists z then .persists else .cleared)
    else if s.zoneState z = .tripped ∧ (s.zones.get z).code ≠ none then .cleared
    else .notFaulted := by
  unfold State.clearAnswer
  cases hst : s.zoneState z with
  | tripped => cases hc : (s.zones.get z).code <;> simp
  | stopped | running | draining | faulted => simp

theorem zoneOfCode_zoneCode (z : Zone) : zoneOfCode (zoneCode z) = some z := by cases z <;> rfl

theorem toNat_zoneCode (z : Zone) : (BitVec.ofNat 8 (zoneCode z)).toNat = zoneCode z := by
  cases z <;> rfl

theorem zoneCode_inj {z y : Zone} (h : zoneCode z = zoneCode y) : z = y :=
  Option.some.inj ((zoneOfCode_zoneCode z).symm.trans ((congrArg _ h).trans (zoneOfCode_zoneCode y)))

theorem zoneSet_codes (zs : List Zone) :
    zoneSet (zs.map (fun z => BitVec.ofNat 8 (zoneCode z))) =
      [Zone.a, .b, .p, .c].filter (fun z => decide (z ∈ zs)) := by
  unfold zoneSet
  congr 1
  funext z
  rw [Bool.eq_iff_iff, List.any_map, List.any_eq_true, decide_eq_true_iff]
  constructor
  · rintro ⟨y, hy, h⟩
    simp only [Function.comp, toNat_zoneCode, beq_iff_eq] at h
    exact zoneCode_inj h ▸ hy
  · exact fun h => ⟨z, h, by simp only [Function.comp, toNat_zoneCode, beq_self_eq_true]⟩

theorem onClearFaults_eq {s : State} {zs : List Zone} (hne : zs ≠ []) (hlen : zs.length ≤ 4) :
    onClearFaults (BitVec.ofNat 8 zs.length :: zs.map (fun z => BitVec.ofNat 8 (zoneCode z))) s =
      let set := [Zone.a, .b, .p, .c].filter (fun z => decide (z ∈ zs))
      (set.foldl State.clearZone s,
        ⟨if set.any (fun z => decide (s.clearAnswer z = .persists)) then .persists else .ok,
          lines (set.map (fun z =>
            one (zoneCode z) ++ one (clearCode (s.clearAnswer z))))⟩) := by
  have hpos : 0 < zs.length := List.length_pos_of_ne_nil hne
  have hcount : (BitVec.ofNat 8 zs.length).toNat = zs.length := by
    rw [BitVec.toNat_ofNat]; omega
  have hrange : inRange 1 4 (BitVec.ofNat 8 zs.length).toNat = true := by
    rw [hcount, inRange_eq_true]; omega
  have hall : (zs.map (fun z => BitVec.ofNat 8 (zoneCode z))).all
      (fun c => (zoneOfCode c.toNat).isSome) = true := by
    simp only [List.all_map, List.all_eq_true, Function.comp, toNat_zoneCode, zoneOfCode_zoneCode,
      Option.isSome_some, implies_true]
  simp only [onClearFaults, List.length_map, hcount]
  rw [if_neg (fun h => h rfl), if_pos (by rw [← hcount, hrange, hall]; rfl), zoneSet_codes]

/-- Settles O28: the table of a report, and the zones of the set cleared one by one. -/
theorem faultsAreTakenAndCleared : Obligations.FaultsAreTakenAndCleared := by
  refine ⟨fun s z c => ⟨?_, fun y hy => ?_, ?_⟩, fun s zs hrx hne hlen => ?_⟩
  · exact (s.zones_fault z z c).trans (if_pos rfl)
  · exact (s.zones_fault z y c).trans (if_neg hy)
  · simp
  · intro persists cleared set
    have hpersists (z : Zone) : decide (s.clearAnswer z = .persists) = persists z := by
      rw [Bool.eq_iff_iff, decide_eq_true_iff, decide_eq_true_iff, s.clearAnswer_eq]
      by_cases hf : s.zoneState z = .faulted
      · rw [if_pos hf, ← State.causePersists_iff]
        by_cases hc : s.causePersists z = true <;> simp [hf, hc]
      · by_cases ht : s.zoneState z = .tripped ∧ (s.zones.get z).code ≠ none <;> simp [hf, ht]
    have hcleared (z : Zone) : s.clearAnswer z = .cleared ↔ cleared z = true := by
      show _ ↔ (!persists z && _) = true
      rw [← hpersists, Bool.and_eq_true, Bool.not_eq_true', decide_eq_false_iff_not,
        decide_eq_true_iff, s.clearAnswer_eq]
      by_cases hf : s.zoneState z = .faulted
      · by_cases hc : s.causePersists z = true <;> simp [hf, hc]
      · by_cases ht : s.zoneState z = .tripped ∧ (s.zones.get z).code ≠ none <;> simp [hf, ht]
    have hcode (z : Zone) : clearCode (s.clearAnswer z) =
        if cleared z then 0 else if persists z then 1 else 2 := by
      rw [← hpersists]
      by_cases hc : s.clearAnswer z = .cleared
      · rw [if_pos ((hcleared z).1 hc), hc]; rfl
      · rw [if_neg (fun h => hc ((hcleared z).2 h))]
        cases h : s.clearAnswer z with
        | cleared => exact absurd h hc
        | persists | notFaulted => rfl
    have hexec := exec_request (i := .clearFaults _) (h := onClearFaults) hrx rfl (onClearFaults_eq (s := s) hne hlen)
    refine ⟨set.foldl State.clearZone s, ?_, fun z => ?_⟩
    · have hany : (fun z => decide (s.clearAnswer z = .persists)) = persists := funext hpersists
      simp only [hcode, hany] at hexec
      rw [s.clearZones_eq] at hexec
      exact hexec
    · have hset : z ∈ set ↔ z ∈ zs := by
        cases z <;> simp [set]
      rw [State.zones_clearZones, State.clearedCtl]
      by_cases hz : z ∈ zs
      · by_cases hc : cleared z = true
        · rw [if_pos (hset.2 hz), if_pos ((hcleared z).2 hc), if_pos ⟨hz, hc⟩]
          have hstate := State.state_of_cleared ((hcleared z).2 hc)
          refine congrArg (fun st => ZoneCtl.mk st none false) ?_
          rcases hstate with h | h
          · exact (if_pos h).trans (if_pos h).symm
          · have hne : ¬ s.zoneState z = .faulted := fun hf => by cases h.symm.trans hf
            exact ((if_neg hne).trans h).trans (if_neg hne).symm
        · rw [if_pos (hset.2 hz), if_neg (fun h => hc ((hcleared z).1 h)), if_neg (fun h => hc h.2)]
      · rw [if_neg (fun h => hz (hset.1 h)), if_neg (fun h => hz h.1)]

end Sys2Proof.Machine
end

section
/-! SUPPORT. ZONE RUN and ZONE STOP by the zone's state (R149, R150). -/
namespace Sys2Proof.Machine

theorem oneZone_eq (h : Zone → State → State × Reply) (z : Zone) (s : State) :
    oneZone h [BitVec.ofNat 8 (zoneCode z)] s = h z s := by
  simp only [oneZone, splitFields_single (w := 1) (n := zoneCode z) (by cases z <;> decide),
    show [BitVec.ofNat 8 (zoneCode z)] = beBytes 1 (zoneCode z) from rfl, zoneOfCode_zoneCode]

theorem Decides.after {s t u : State} (g : Decides t u) (h : Decides s t) : Decides s u := h.trans g

/-- A zone put into a state with its timers kept: RUNNING, or DRAINING outside zone B. -/
theorem State.setZone_running (s : State) (z : Zone) : s.setZone z .running =
    { s with zones := s.zones.set z { s.zones.get z with state := .running } } := by
  unfold State.setZone State.stopZoneTimers
  cases z with
  | a | p => rfl
  | b => exact if_pos rfl
  | c => exact if_pos rfl

theorem decides_setZone_draining {s : State} (z : Zone) :
    Decides { s with zones := s.zones.set z { s.zones.get z with state := .draining } }
      (s.setZone z .draining) := decides_stopZoneTimers _ z

theorem StagingSide.stopTimers_releasing (x : StagingSide) :
    x.stopTimers.releasing = x.releasing := by cases x <;> rfl

theorem StagingSide.stopTimers_ejecting (x : StagingSide) :
    x.stopTimers.ejecting = x.ejecting := by cases x <;> rfl

theorem JacketStop.stopTimer_inFlight (x : JacketStop) : x.stopTimer.inFlight = x.inFlight := by
  cases x <;> rfl

/-- The end condition of a drain looks neither at the zone states nor at the waiting timers. -/
theorem State.drained_setZone (s : State) (z y : Zone) (st : ZoneState) :
    (s.setZone z st).drained y = s.drained y := by
  unfold State.setZone State.stopZoneTimers
  split
  · split
    · cases y <;> rfl
    · cases y <;> simp only [State.drained, State.inFlight, StagingSide.stopTimers_releasing,
        StagingSide.stopTimers_ejecting]
  · split
    · cases y <;> rfl
    · cases y <;> simp only [State.drained, State.inFlight, JacketStop.stopTimer_record,
        JacketStop.stopTimer_inFlight]
  all_goals cases y <;> rfl

theorem State.zoneState_setZone (s : State) (z : Zone) (st : ZoneState) :
    (s.setZone z st).zoneState z = st := by
  rw [State.zoneState, State.zones_setZone, if_pos rfl]

theorem State.zoneState_enterRunning (s : State) (z : Zone) :
    (s.enterRunning z).zoneState z = .running := by
  have h := s.zoneState_setZone z .running
  cases z <;> simpa [State.enterRunning, State.zoneState] using h

theorem State.zoneState_enterDraining (s : State) (z : Zone) :
    (s.enterDraining z).zoneState z = if s.drained z then .stopped else .draining := by
  have htest : ((s.setZone z .draining).drainTest z).zoneState z =
      if s.drained z then .stopped else .draining := by
    rw [State.drainTest, State.zoneState_setZone, State.drained_setZone]
    by_cases h : s.drained z = true
    · rw [if_pos h, if_pos (by rw [h]; rfl), State.zoneState_setZone]
    · rw [if_neg h, if_neg (by simpa using h), State.zoneState_setZone]
  cases z <;> simpa [State.enterDraining, State.zoneState] using htest

theorem decides_enterDraining (s : State) (z : Zone) :
    Decides { s with zones := s.zones.set z { s.zones.get z with state := .draining } }
      (s.enterDraining z) := by
  have htest := (decides_setZone_draining (s := s) z).trans (decides_drainTest _ z)
  cases z with
  | a | b => exact htest
  | p => exact htest.trans (decides_pressTest _)
  | c => exact (htest.trans (decides_jacketDecide _)).trans (decides_jacketReleaseTest _)

/-- What a zone has when it enters RUNNING, before its unit decides (R62, R107, R139). -/
def State.ranZone (s : State) (z : Zone) : State :=
  { s with
    zones := s.zones.set z { s.zones.get z with state := .running }
    trk := (match z with
      | .a => { s.trk with belts :=
          (s.trk.belts.set .a { s.belt .a with mark := (s.belt .a).count }) }
      | .b => { s.trk with belts :=
          (s.trk.belts.set .b { s.belt .b with mark := (s.belt .b).count }) }
      | .c => { s.trk with belts :=
          (s.trk.belts.set .c { s.belt .c with mark := (s.belt .c).count }) }
      | .p => s.trk)
    stg := if z = .b then { s.stg with overdue := false } else s.stg
    dlv := if z = .c then { s.dlv with overdue := false } else s.dlv }

theorem decides_enterRunning (s : State) (z : Zone) : Decides (s.ranZone z) (s.enterRunning z) := by
  cases z with
  | a =>
    have heq : s.enterRunning .a = s.ranZone .a := by
      simp only [State.enterRunning, State.setZone_running]; rfl
    rw [heq]; exact .refl _
  | b =>
    have heq : s.enterRunning .b =
        (s.ranZone .b).casingCycleTest.casingReleaseTest.stagingDecide := by
      simp only [State.enterRunning, State.setZone_running]; rfl
    rw [heq]
    exact (decides_stagingDecide _).after ((decides_casingReleaseTest _).after
      (decides_casingCycleTest _))
  | p =>
    have heq : s.enterRunning .p = (s.ranZone .p).pressTest := by
      simp only [State.enterRunning, State.setZone_running]; rfl
    rw [heq]; exact decides_pressTest _
  | c =>
    have heq : s.enterRunning .c = ({ s.ranZone .c with
        dlv := { (s.ranZone .c).dlv with stop := s.dlv.stop.stopTimer } } :
          State).jacketDecide.jacketReleaseTest := by
      simp only [State.enterRunning, State.setZone_running]; rfl
    rw [heq]
    exact (decides_jacketReleaseTest _).after ((decides_jacketDecide _).after
      (decides_stop _ _ _ (JacketStop.stopTimer_record s.dlv.stop)))

theorem onZoneRun_eq (z : Zone) (s : State) : onZoneRun [BitVec.ofNat 8 (zoneCode z)] s =
    match s.zoneState z with
    | .stopped | .draining => s.tryRun z
    | .running => (s, ⟨.ok, []⟩)
    | .faulted => s.refused .wrongState
    | .tripped => s.refused .guardOpen := by
  rw [onZoneRun, oneZone_eq] <;> rfl

theorem onZoneStop_eq (z : Zone) (s : State) : onZoneStop [BitVec.ofNat 8 (zoneCode z)] s =
    match s.zoneState z with
    | .running => (s.enterDraining z, ⟨.ok, []⟩)
    | .stopped | .draining => (s, ⟨.ok, []⟩)
    | .faulted | .tripped => s.refused .wrongState := by
  rw [onZoneStop, oneZone_eq] <;> rfl

/-- The first point of a zone that is not in a suitable mode. -/
theorem State.unsuitable?_eq_some {s : State} {z : Zone} {n : Nat} (hmem : n ∈ zonePoints z)
    (hn : pointSuitable n (s.point n) = false)
    (hbefore : ∀ k ∈ zonePoints z, k < n → pointSuitable k (s.point k) = true) :
    s.unsuitable? z = some n := by
  have hsorted : (zonePoints z).Pairwise (· < ·) := by cases z <;> decide
  obtain ⟨before, after, hsplit⟩ := List.append_of_mem hmem
  rw [hsplit, List.pairwise_append] at hsorted
  rw [State.unsuitable?, List.find?_eq_some_iff_append]
  refine ⟨by simp [hn], before, after, hsplit, fun k hk => ?_⟩
  have hlt : k < n := hsorted.2.2 k hk n (List.mem_cons_self)
  simp [hbefore k (hsplit ▸ List.mem_append_left _ hk) hlt]

theorem State.unsuitable?_eq_none {s : State} {z : Zone}
    (h : ∀ k ∈ zonePoints z, pointSuitable k (s.point k) = true) : s.unsuitable? z = none := by
  rw [State.unsuitable?, List.find?_eq_none]
  exact fun k hk => by simp [h k hk]

/-- Settles O24: the handlers' branches, and what the zone and its unit do on entering the state. -/
theorem zoneRunAndStop : Obligations.ZoneRunAndStop := by
  refine ⟨fun s z hrx => ?_, fun s z hrx => ?_⟩
  · have hrun := onZoneRun_eq z s
    intro body waits
    have hexec {t : State} {r : Reply} (h : onZoneRun body s = (t, r)) :
        exec (.zoneRun body) s = .next (t.respond 0x30#8 r) :=
      exec_request (h := onZoneRun) hrx rfl h
    have htry (hw : waits) : onZoneRun body s = s.tryRun z := by
      rcases hw with h | h <;> (rw [h] at hrun; exact hrun)
    refine ⟨fun h => ?_, fun h => ?_, fun h => ?_, fun hw hio => ?_,
      fun n hn hw hg ha hunfit hbefore => ?_, fun hw hg ha hfit => ?_⟩
    · rw [h] at hrun; exact hexec hrun
    · rw [h] at hrun; exact hexec hrun
    · rw [h] at hrun; exact hexec hrun
    · refine hexec ((htry hw).trans (if_pos ?_))
      rcases hio with h | h <;> simp [h]
    · refine hexec ((htry hw).trans ?_)
      simp only [State.tryRun, hg, ha, State.unsuitable?_eq_some hn hunfit hbefore] <;> rfl
    · refine ⟨s.enterRunning z, hexec ((htry hw).trans ?_), s.zoneState_enterRunning z,
        decides_enterRunning s z⟩
      simp only [State.tryRun, hg, ha, State.unsuitable?_eq_none hfit] <;> rfl
  · have hstop := onZoneStop_eq z s
    intro body
    have hexec {t : State} {r : Reply} (h : onZoneStop body s = (t, r)) :
        exec (.zoneStop body) s = .next (t.respond 0x31#8 r) :=
      exec_request (h := onZoneStop) hrx rfl h
    refine ⟨fun h => ?_, fun h => ?_, fun h => ?_⟩
    · rw [h] at hstop
      exact ⟨_, hexec hstop, s.zoneState_enterDraining z, decides_enterDraining s z⟩
    · refine hexec ?_
      rcases h with h | h <;> (rw [h] at hstop; exact hstop)
    · refine hexec ?_
      rcases h with h | h <;> (rw [h] at hstop; exact hstop)

end Sys2Proof.Machine
end

section
/-! SUPPORT. The verdict checks (R88, R89), identification (R25 to R27) and the wanted test (R31, R32). -/
namespace Sys2Proof.Machine

/-! ### The verdict -/

theorem Book.askReason_some (b : Book) (why : Reason) :
    b.askReason (some why) = { b with reason := some (b.reason.getD why) } := by
  cases h : b.reason <;> simp [Book.askReason, h]

theorem Book.askReason_none (b : Book) : (b.askReason none).reason = b.reason := by
  cases h : b.reason <;> simp [Book.askReason, h]

theorem fitVerdict_fit {sr : Nat} {k : Template} (h : -(k.spineTol : Int) ≤ (sr : Int) - k.spine)
    (h' : (sr : Int) - k.spine ≤ k.spineTol) : fitVerdict sr k = .fit := if_pos ⟨h, h'⟩

theorem fitVerdict_tight {sr : Nat} {k : Template} (h : (k.spineTol : Int) < (sr : Int) - k.spine) :
    fitVerdict sr k = .tight :=
  (if_neg (fun hfit => absurd hfit.2 (by omega))).trans (if_pos h)

theorem fitVerdict_loose {sr : Nat} {k : Template} (h : (sr : Int) - k.spine < -(k.spineTol : Int)) :
    fitVerdict sr k = if k.looseAccept ∧ -((sr : Int) - k.spine) ≤ 2 * (k.spineTol : Int) then .looseOk
      else .loose :=
  (if_neg (fun hfit => absurd hfit.1 (by omega))).trans (if_neg (by omega))

theorem Book.judged_gaugeFail {b : Book} {k : Template} {limit : Nat}
    (h : (validSamples b.samples).length < 3 ∨ b.lm = none) :
    b.judged k limit = { b with reason := some (b.reason.getD .gaugeFail) } := by
  rw [← b.askReason_some]
  unfold Book.judged
  split
  · next hlm =>
    rcases h with h | h
    · exact if_pos h
    · rw [h] at hlm; cases hlm
  · rfl

theorem Book.judged_eq {b : Book} {k : Template} {limit t sp lm : Nat} (ht : b.thickness = some t)
    (hsp : b.spread = some sp) (hlm : b.lm = some lm) (h : 3 ≤ (validSamples b.samples).length) :
    b.judged k limit = if limit < sp then b.askReason (some .spread)
      else if k.lengthTol < ((lm : Int) - k.trim).natAbs then b.askReason (some .wrongSize)
      else { b with sr := some (requiredSpine t k), verdict := some (fitVerdict (requiredSpine t k) k) }
        |>.askReason (verdictReason (fitVerdict (requiredSpine t k) k)) := by
  simp only [Book.judged, ht, hsp, hlm]
  exact if_neg (by omega)

/-- The required spine stays within its range for every thickness and template in range (R89). -/
theorem requiredSpine_bounds {t : Nat} {k : Template} (ht : t ≤ 9999) (hb : 100 ≤ k.board)
    (hb' : k.board ≤ 400) (hr : k.rounding ≤ 150) :
    200 ≤ requiredSpine t k ∧ requiredSpine t k ≤ 12299 := by
  have hmul : t * k.rounding ≤ 9999 * 150 := Nat.mul_le_mul ht hr
  unfold requiredSpine roundingAllowance ceilQuot
  omega

/-- Settles O36: the checks in their order, and the verdict by the difference of the spines. -/
theorem spineFit : Obligations.SpineFit := by
  refine ⟨fun b k limit => ⟨Book.judged_gaugeFail, fun t sp lm ht hsp hlm hvalid => ?_⟩,
    fun b k limit t sp lm ht hsp hlm hvalid hspread hsize => ?_⟩
  · have heq := Book.judged_eq (k := k) (limit := limit) ht hsp hlm hvalid
    refine ⟨fun h => ?_, fun h h' => ?_⟩
    · exact (heq.trans (if_pos h)).trans (b.askReason_some _)
    · exact (heq.trans ((if_neg (by omega)).trans (if_pos h'))).trans (b.askReason_some _)
  · have heq := Book.judged_eq (k := k) (limit := limit) ht hsp hlm hvalid
    rw [if_neg (by omega), if_neg (by omega)] at heq
    intro sr d ts
    have hsr : requiredSpine t k = sr := rfl
    rw [heq, hsr]
    refine ⟨rfl, requiredSpine_bounds, fun h h' => ?_, fun h => ?_, fun h hacc h' => ?_,
      fun h hno => ?_⟩
    · rw [fitVerdict_fit h h']
      exact ⟨rfl, Book.askReason_none _⟩
    · rw [fitVerdict_tight h]
      exact ⟨rfl, congrArg Book.reason (Book.askReason_some _ _)⟩
    · rw [fitVerdict_loose h, if_pos ⟨hacc, h'⟩]
      exact ⟨rfl, Book.askReason_none _⟩
    · have hnot : ¬ (k.looseAccept = true ∧ -d ≤ 2 * ts) := by
        rintro ⟨hacc, hle⟩
        rcases hno with hno | hno
        · rw [hno] at hacc; cases hacc
        · omega
      rw [fitVerdict_loose h, if_neg hnot]
      exact ⟨rfl, congrArg Book.reason (Book.askReason_some _ _)⟩

/-! ### Identification -/

theorem Order.copyState?_eq (o : Order) {c : Nat} (h : 1 ≤ c) : o.copyState? c = o.copyMap[c - 1]? :=
  if_neg (by omega)

theorem State.identified_of_order {s : State} {i : Ident} {o : Order} (hi : i.item = .blockItem)
    (ho : s.order? i.order = some o) : s.identified i =
      if o.state = .complete then .unboundFor .overCount
      else match o.tmpl.mode with
        | .copyExact =>
          if o.copies < i.copy then .unboundFor .overCount
          else match o.copyState? i.copy with
            | some .inProcess | some .finished => .unboundFor .duplicate
            | some .notSeen | some .rejected => .boundTo o
            | none => .unboundFor .overCount
        | .title =>
          if s.boundTwin i then .unboundFor .duplicate
          else if o.copies ≤ o.counters.inProcess + o.counters.good + o.counters.inspect then
            .unboundFor .overCount
          else .boundTo o := by
  unfold State.identified
  rw [if_neg (fun h => h hi), ho] <;> rfl

theorem State.boundTwin_iff {s : State} {i : Ident} : s.boundTwin i = true ↔
    ∃ b ∈ s.table.books, b.life ≠ .retired ∧ b.binding = some .bound ∧ b.ident = some i := by
  simp [State.boundTwin, Book.live_iff, and_assoc]

theorem identified_tests (s : State) (i : Ident) :
    (i.item ≠ .blockItem → s.identified i = .unboundFor .wrongItem) ∧
    (i.item = .blockItem → s.order? i.order = none →
      s.identified i = if s.admitSet.getLsbD (i.order * 40503 % 65536 / 128) then .expectedEarly
        else .unboundFor .foreign) := by
  refine ⟨fun h => if_pos h, fun h hnone => ?_⟩
  unfold State.identified
  rw [if_neg (fun hne => hne h), hnone] <;> rfl

/-! ### The wanted test -/

theorem State.wanted_of_order {s : State} {st : Station} {i : Ident} {o : Order} (x : Book)
    (hi : i.item = stationItem st) (ho : s.order? i.order = some o) : s.wanted st (.ident i) x =
      if o.state = .complete then .orphan
      else if st = .jacketStation ∧ o.tmpl.jacket = .none then .orphan
      else if x.binding = some .bound ∧ x.order? = some i.order ∧
          (o.tmpl.mode = .title ∨ x.copy? = some i.copy) then .matchesX
      else match o.tmpl.mode with
        | .title => .elsewhere
        | .copyExact => s.wantedCopy st o i := by
  unfold State.wanted
  dsimp only
  rw [if_neg (c := i.item ≠ stationItem st) (fun h => h hi), ho] <;> rfl

theorem State.passed_caseStation (s : State) (b : Book) :
    s.passed .caseStation b = true ↔ b.life ∉ [.gauging, .toStaging, .staged] := by
  simp [State.passed, not_or]

theorem State.passed_jacketStation (s : State) (b : Book) : s.passed .jacketStation b = true ↔
    b.tmpl.map (·.jacket) = some .none ∨ b.life = .toOutfeed ∨ b.life = .retired ∨
      (b.life = .atJacket ∧ (b.marriedJacket ≠ none ∨
        ∃ timer, s.dlv.stop = .inCycle b.slot timer ∨ s.dlv.stop = .releasing b.slot timer)) := by
  unfold State.passed
  rw [Bool.or_eq_true, decide_eq_true_iff]
  refine or_congr Iff.rfl ?_
  cases hl : b.life with
  | atJacket =>
    have hstop : (match s.dlv.stop with
        | .releasing r _ => r == b.slot
        | .inCycle r _ => r == b.slot
        | .empty | .waiting _ _ | .ejectInFlight _ _ | .done _ => false) = true ↔
        ∃ timer, s.dlv.stop = .inCycle b.slot timer ∨ s.dlv.stop = .releasing b.slot timer := by
      cases s.dlv.stop <;> simp
    refine Iff.trans (b := b.marriedJacket ≠ none ∨ ∃ timer,
      s.dlv.stop = .inCycle b.slot timer ∨ s.dlv.stop = .releasing b.slot timer) ?_ (by simp)
    exact (Bool.or_eq_true _ _ ▸ or_congr Option.isSome_iff_ne_none hstop)
  | _ => simp

theorem wanted_tests (s : State) (st : Station) (i : Ident) (x : Book) :
    let letter : Item := match st with | .caseStation => .caseItem | .jacketStation => .jacketItem
    (∀ j, (j = .unreadable ∨ j = .conflict) → s.wanted st j x = .orphan) ∧
    (i.item ≠ letter → s.wanted st (.ident i) x = .orphan) ∧
    (s.order? i.order = none → s.wanted st (.ident i) x = .orphan) := by
  have hletter : (match st with
      | .caseStation => Item.caseItem | .jacketStation => .jacketItem) = stationItem st := by
    cases st <;> rfl
  refine ⟨?_, fun h => ?_, fun h => ?_⟩
  · rintro j (rfl | rfl) <;> rfl
  · rw [hletter] at h
    exact if_pos h
  · unfold State.wanted
    dsimp only
    split <;> [rfl; rw [h]]

theorem State.wantedCopy_tests (s : State) (st : Station) (o : Order) (i : Ident) :
    (o.copies < i.copy → s.wantedCopy st o i = .orphan) ∧
    (i.copy ≤ o.copies → 1 ≤ i.copy →
      (o.copyMap[i.copy - 1]? = some .notSeen ∨ o.copyMap[i.copy - 1]? = some .rejected →
        s.wantedCopy st o i = .elsewhere) ∧
      (o.copyMap[i.copy - 1]? = some .finished → s.wantedCopy st o i = .orphan) ∧
      (∀ b, o.copyMap[i.copy - 1]? = some .inProcess →
        s.boundRecord? i.order i.copy = some b →
        s.wantedCopy st o i = if s.passed st b then .orphan else .elsewhere)) := by
  refine ⟨fun h => if_pos h, fun hle hpos => ?_⟩
  unfold State.wantedCopy
  rw [if_neg (by omega), o.copyState?_eq hpos]
  refine ⟨fun h => ?_, fun h => ?_, fun b h hb => ?_⟩
  · rcases h with h | h <;> rw [h]
  · rw [h]
  · rw [h, hb]

/-- Settles O35: the tests of R25 to R27, of R31 and R32, and the conditions of having passed. -/
theorem identificationAndWanted : Obligations.IdentificationAndWanted := by
  refine ⟨fun s i => ?_, fun s st i x => ?_,
    fun s b => ⟨s.passed_caseStation b, s.passed_jacketStation b⟩⟩
  · obtain ⟨hitem, hnone⟩ := identified_tests s i
    refine ⟨hitem, hnone, fun o hi ho => ?_⟩
    have heq := State.identified_of_order hi ho
    refine ⟨fun hc => heq.trans (if_pos hc), fun hc hmode hlen hpos => ?_, fun hc hmode => ?_⟩
    · rw [if_neg hc, hmode] at heq
      refine ⟨fun hlt => heq.trans (if_pos hlt), fun st hst => ?_⟩
      have hle : i.copy - 1 < o.copyMap.length := (List.getElem?_eq_some_iff.1 hst).1
      rw [heq]
      show (if o.copies < i.copy then _ else _) = _
      rw [if_neg (by omega), o.copyState?_eq hpos, hst]
      cases st <;> rfl
    · rw [if_neg hc, hmode] at heq
      refine heq.trans ?_
      show (if s.boundTwin i = true then _ else _) = _
      simp only [State.boundTwin_iff]
  · intro letter
    have hletter : letter = stationItem st := by cases st <;> rfl
    obtain ⟨hunread, hitem, hnone⟩ := wanted_tests s st i x
    refine ⟨hunread, hitem, hnone, fun o hi ho => ?_⟩
    have heq := State.wanted_of_order x (hi.trans hletter) ho
    refine ⟨fun h => ?_, fun hc hreq => ?_⟩
    · rw [heq]
      rcases h with h | h
      · exact if_pos h
      · by_cases hc : o.state = .complete
        · exact if_pos hc
        · exact (if_neg hc).trans (if_pos h)
    · have hjacket : ¬ (st = .jacketStation ∧ o.tmpl.jacket = .none) := fun h => by
        cases (hreq h.1).symm.trans h.2
      rw [if_neg hc, if_neg hjacket] at heq
      intro same
      refine ⟨fun h => heq.trans (if_pos h), fun h hmode => ?_, fun h hmode => ?_⟩
      · rw [if_neg h, hmode] at heq
        exact heq
      · rw [if_neg h, hmode] at heq
        have hcopy : s.wanted st (.ident i) x = s.wantedCopy st o i := heq
        rw [hcopy]
        exact s.wantedCopy_tests st o i

end Sys2Proof.Machine
end

section
/-! SUPPORT. The head decision (R97, R98) and the stop decision (R137). -/
namespace Sys2Proof.Machine

theorem State.stagingDecide_none {s : State}
    (h : s.zoneState .b ≠ .running ∨ (∀ w, s.stg.side ≠ .idle w) ∨ s.stg.queue = []) :
    s.stagingDecide = s := by
  unfold State.stagingDecide
  rcases h with h | h | h
  · rw [if_neg (by simp [h])]
  · have hside : s.stg.side.isIdle = false := by
      cases hs : s.stg.side with
      | idle w => exact absurd hs (h w)
      | _ => rfl
    rw [if_neg (by simp [hside])]
  · simp only [h, List.head?_nil, Option.bind_none]
    split <;> rfl

theorem State.stagingDecide_eq {s : State} {w : StagingWait} {r : Nat} {rest : List Nat} {x : Book}
    (hz : s.zoneState .b = .running) (hside : s.stg.side = .idle w) (hq : s.stg.queue = r :: rest)
    (hx : s.book? r = some x) : s.stagingDecide = s.decideHead x := by
  simp only [State.stagingDecide, hz, hside, hq, List.head?_cons, Option.bind_some, hx]
  rfl

theorem State.orderHeld_iff {s : State} {x : Book} : s.orderHeld x = true ↔
    x.binding = some .bound ∧ ∃ n o, x.order? = some n ∧ s.order? n = some o ∧ o.state = .held := by
  unfold State.orderHeld
  rw [Bool.and_eq_true, decide_eq_true_iff]
  refine and_congr Iff.rfl ?_
  cases hn : x.order? with
  | none => simp
  | some n => cases ho : s.order? n <;> simp [ho]

theorem State.setReason_eq (s : State) (r : Nat) (why : Reason) : s.setReason r why =
    s.updBook r (fun d =>
      if d.life ≠ .retired ∧ d.reason = none then { d with reason := some why } else d) := by
  unfold State.setReason
  congr 1
  funext d
  simp [Book.live]

theorem CasingSide.record?_eq_none {c : CasingSide} : c.record? = none ↔ c = .empty := by
  cases c <;> simp [CasingSide.record?]

theorem State.decideHead_reject {s : State} {x : Book}
    (h : (∃ why, x.binding = some (.unbound why)) ∨ (x.binding ≠ none ∧ x.reason ≠ none)) :
    s.decideHead x = s.commandReject := by
  unfold State.decideHead
  rcases h with ⟨why, h⟩ | ⟨h, hr⟩
  · rw [h]; rfl
  · obtain ⟨b, hb⟩ := Option.ne_none_iff_exists'.1 h
    rw [hb]
    exact if_pos (by rw [Option.isSome_iff_ne_none.2 hr, Bool.or_true])

/-- The tests of R97 on a head that is BOUND or EARLY and carries no reason. -/
theorem State.decideHead_eq {s : State} {x : Book} {b : Binding} (hb : x.binding = some b)
    (hu : b.isUnbound = false) (hr : x.reason = none) : s.decideHead x =
      if s.orderHeld x then (s.setReason x.slot .orderHeld).commandReject
      else if b = .early then s.waitEarly
      else if s.stg.casing.record?.isSome then s.setSide (.idle .casingBusy)
      else match s.stg.cases with
        | [] => s.waitCase
        | h :: behind => s.decideCase x h behind := by
  unfold State.decideHead
  rw [hb]
  exact if_neg (by rw [hu, hr]; decide)

theorem State.waitCase_eq (s : State) (w : StagingWait) : s.stg.side = .idle w →
    s.waitCase = s.setSide (.idle (.caseWait (match w with
      | .caseWait t => t
      | _ => ⟨s.clock, s.cfg.caseWait⟩))) := by
  intro hside
  have hself : s = s.setSide s.stg.side := rfl
  unfold State.waitCase
  rw [hside] at hself ⊢
  cases w with
  | caseWait t => exact hself
  | _ => rfl

theorem State.waitEarly_eq (s : State) (w : StagingWait) : s.stg.side = .idle w →
    s.waitEarly = s.setSide (.idle (.earlyHold (match w with
      | .earlyHold t => t
      | _ => ⟨s.clock, s.cfg.earlyHold⟩))) := by
  intro hside
  have hself : s = s.setSide s.stg.side := rfl
  unfold State.waitEarly
  rw [hside] at hself ⊢
  cases w with
  | earlyHold t => exact hself
  | _ => rfl

/-- A match behind the head case asks for its eject. -/
theorem State.anyMatch_iff {s : State} {x : Book} {behind : List CaseEntry} :
    behind.any (fun e => decide (s.wanted .caseStation e.identity x = .matchesX)) = true ↔
      ∃ e ∈ behind, s.wanted .caseStation e.identity x = .matchesX := by
  simp

/-- Settles O47: the head decision unfolded test by test. -/
theorem stagingHeadDecision : Obligations.StagingHeadDecision := by
  refine fun s => ⟨fun h => congrArg Host.Outcome.next (State.stagingDecide_none h),
    fun w r rest x hz hside hq hx => ?_⟩
  have hslot : x.slot = r := State.slot_of_book? hx
  have hexec : exec .stagingHeadDecision s = .next (s.decideHead x) :=
    congrArg Host.Outcome.next (State.stagingDecide_eq hz hside hq hx)
  intro side reject eject caseWait held free
  rw [hexec]
  have hwait : s.waitCase = side caseWait := s.waitCase_eq w hside
  have heldIff (hb : x.binding = some .bound) : s.orderHeld x = true ↔ held :=
    State.orderHeld_iff.trans (and_iff_right hb)
  have hfree (h : free) : s.decideHead x = (match s.stg.cases with
      | [] => s.waitCase
      | h :: behind => s.decideCase x h behind) := by
    obtain ⟨hb, hr, hheld, hempty⟩ := h
    rw [State.decideHead_eq hb rfl hr, if_neg (fun h => hheld ((heldIff hb).1 h)),
      if_neg (by decide), hempty]
    rfl
  refine ⟨fun h => congrArg _ (State.decideHead_reject h), fun hb hr _ hheld => ?_,
    fun hb hr => ?_, fun hb hr hheld hbusy => ?_, fun h hnil => ?_, fun h behind hf hcons => ?_⟩
  · rw [State.decideHead_eq hb rfl hr, if_pos ((heldIff hb).2 hheld), State.setReason_eq, hslot]
    rfl
  · have hnot : ¬ s.orderHeld x = true := fun h => by
      cases hb.symm.trans (State.orderHeld_iff.1 h).1
    rw [State.decideHead_eq hb rfl hr, if_neg hnot, if_pos rfl, s.waitEarly_eq w hside]
    rfl
  · have hsome : s.stg.casing.record?.isSome = true :=
      Option.isSome_iff_ne_none.2 (fun hnone => hbusy (CasingSide.record?_eq_none.1 hnone))
    rw [State.decideHead_eq hb rfl hr, if_neg (fun h => hheld ((heldIff hb).1 h)),
      if_neg (by decide), if_pos hsome]
    rfl
  · rw [hfree h, hnil]
    exact congrArg _ hwait
  · rw [hfree hf, hcons]
    show (_ → Host.Outcome.next (s.decideCase x h behind) = _) ∧
      (_ → Host.Outcome.next (s.decideCase x h behind) = _) ∧
      (_ → _ → Host.Outcome.next (s.decideCase x h behind) = _) ∧
      (_ → _ → (_ → Host.Outcome.next (s.decideCase x h behind) = _) ∧
        (_ → Host.Outcome.next (s.decideCase x h behind) = _))
    unfold State.decideCase
    refine ⟨fun hw => ?_, fun hw => ?_, fun hw hany => ?_, fun hw hnone => ?_⟩
    · rw [hw]; rfl
    · rw [hw]
      simp only [State.commandForward, hcons]
      rfl
    · rw [hw]
      exact congrArg _ (if_pos (State.anyMatch_iff.2 hany))
    · have hnot : ¬ (behind.any (fun e =>
          decide (s.wanted .caseStation e.identity x = .matchesX)) = true) := fun h => by
        obtain ⟨e, he, hm⟩ := State.anyMatch_iff.1 h
        exact hnone e he hm
      rw [hw]
      refine ⟨fun hlt => ?_, fun hge => ?_⟩
      · exact congrArg _ (((if_neg hnot).trans (if_pos (hcons ▸ hlt))).trans hwait)
      · refine congrArg _ (((if_neg hnot).trans (if_neg (by rw [hcons]; omega))).trans ?_)
        rw [State.setReason_eq, hslot]
        rfl

/-! ### The stop decision -/

theorem State.jacketDecide_none {s : State}
    (h : s.active .c = false ∨ s.io.armed = false ∨ (∀ r t, s.dlv.stop ≠ .waiting r t)) :
    s.jacketDecide = s := by
  unfold State.jacketDecide
  cases hs : s.dlv.stop with
  | waiting r t =>
    rcases h with h | h | h
    · exact if_neg (by simp [h])
    · exact if_neg (by simp [h])
    · exact absurd hs (h r t)
  | _ => rfl

theorem State.jacketDecide_eq {s : State} {r : Nat} {timer : Option Timer} {x : Book}
    (hc : s.active .c = true) (ha : s.io.armed = true) (hstop : s.dlv.stop = .waiting r timer)
    (hx : s.book? r = some x) : s.jacketDecide = s.decideStop x timer := by
  simp only [State.jacketDecide, hc, ha, hstop, hx]
  rfl

/-- The release test of a DONE stop whose unit may command. -/
theorem State.jacketReleaseTest_done {s : State} {r : Nat} (hc : s.active .c = true)
    (ha : s.io.armed = true) (hstop : s.dlv.stop = .done r) : s.jacketReleaseTest =
      if s.table.delivery.length < 6 then
        (s.setStop (.releasing r (s.startTimer s.cfg.releaseTimeout))).bpTest .c else s := by
  simp only [State.jacketReleaseTest, hstop, hc, ha, Bool.and_self, Bool.true_and, decide_eq_true_iff]

/-- A record that leaves the stop decision without a jacket: what it and the stop then hold. -/
theorem State.releaseUnjacketed_spec {s : State} {r : Nat} {timer : Option Timer} {x : Book}
    (hc : s.active .c = true) (ha : s.io.armed = true) (hstop : s.dlv.stop = .waiting r timer)
    (hx : s.book? r = some x) :
    (s.releaseUnjacketed x).dlv.jackets = s.dlv.jackets ∧
    (s.releaseUnjacketed x).book? r =
      some (if x.jacketRequired then { x with jacketResult := some .unjacketed } else x) ∧
    (s.releaseUnjacketed x).dlv.stop = (if s.table.delivery.length < 6 then
      .releasing r ⟨s.clock, s.cfg.releaseTimeout⟩ else .done r) := by
  obtain rfl : x.slot = r := State.slot_of_book? hx
  unfold State.releaseUnjacketed
  have hbook : (if x.jacketRequired then s.setJacketResult x.slot .unjacketed else s).book? x.slot =
      some (if x.jacketRequired then { x with jacketResult := some .unjacketed } else x) := by
    split
    · exact (State.book?_updBook_self s _ (fun d => { d with jacketResult := some .unjacketed })
        (fun _ => rfl)).trans (by rw [hx]; rfl)
    · exact hx
  have hdlv : (if x.jacketRequired then s.setJacketResult x.slot .unjacketed else s).dlv = s.dlv := by
    split <;> rfl
  generalize hu : (if x.jacketRequired then s.setJacketResult x.slot .unjacketed else s) = u at *
  have hu' : { u with table := s.table } = s ∧ u.table.delivery = s.table.delivery := by
    rw [← hu]; split <;> exact ⟨rfl, rfl⟩
  have hactive : (u.setStop (.done x.slot)).active .c = true := by rw [← hc, ← hu'.1]; rfl
  have harmed : (u.setStop (.done x.slot)).io.armed = true := by rw [← ha, ← hu'.1]; rfl
  have hclock : u.clock = s.clock := by rw [← hu'.1]
  have hcfg : u.cfg = s.cfg := by rw [← hu'.1]
  have htest := State.jacketReleaseTest_done hactive harmed rfl
  dsimp only
  rw [htest]
  have hlen : (u.setStop (.done x.slot)).table.delivery = s.table.delivery := hu'.2
  rw [hlen]
  split
  · refine ⟨?_, hbook, ?_⟩
    · exact congrArg (·.jackets) hdlv
    · show JacketStop.releasing x.slot ⟨u.clock, u.cfg.releaseTimeout⟩ = _
      rw [hclock, hcfg]
  · exact ⟨congrArg (·.jackets) hdlv, hbook, rfl⟩

/-- Settles O48: the stop decision unfolded test by test. -/
theorem jacketStopDecision : Obligations.JacketStopDecision := by
  refine fun s => ⟨fun h => congrArg Host.Outcome.next (State.jacketDecide_none h),
    fun r timer x hc ha hstop hx => ?_⟩
  have hslot : x.slot = r := State.slot_of_book? hx
  have hexec : exec .jacketStopDecision s = .next (s.decideStop x timer) :=
    congrArg Host.Outcome.next (State.jacketDecide_eq hc ha hstop hx)
  obtain ⟨hjackets, hbook, hdone⟩ := State.releaseUnjacketed_spec hc ha hstop hx
  have hdecides : Decides s (s.releaseUnjacketed x) :=
    decides_releaseUnjacketed s x (by rw [hstop, hslot]; rfl)
  intro stop works released
  have hrel (h : s.decideStop x timer = s.releaseUnjacketed x) : released
      (if x.jacketRequired then { x with jacketResult := some .unjacketed } else x).jacketResult :=
    ⟨_, _, hexec.trans (congrArg _ h), hdecides, hjackets, hbook, rfl, hdone⟩
  have hreq {h : s.decideStop x timer = s.releaseUnjacketed x}
      (hr : x.tmpl.map (·.jacket) = some .required) : released (some .unjacketed) := by
    have := hrel h
    rwa [if_pos (show x.jacketRequired = true from decide_eq_true hr)] at this
  have hworks (h : works) : s.decideStop x timer = (match s.dlv.jackets with
      | [] => s.setStop (.waiting x.slot (some (timer.getD (s.startTimer s.cfg.jacketWait))))
      | j :: rest =>
        match s.wanted .jacketStation j x, j with
        | .matchesX, .ident i => s.beginJacketCycle x i rest
        | .matchesX, .unreadable | .matchesX, .conflict | .orphan, _ =>
          s.setStop (.ejectInFlight x.slot (s.startTimer s.cfg.jacketEjectTimeout))
        | .elsewhere, _ => s.releaseUnjacketed x) := by
    obtain ⟨hr, hj⟩ := h
    exact if_neg (by simp [hr, Book.jacketNone, hj])
  refine ⟨fun hnone => ?_, fun hr hj => ?_, fun h hnil => ?_, fun j rest h hcons => ?_⟩
  · have hnot : ¬ x.jacketRequired = true := fun hr => by
      cases hnone.symm.trans (of_decide_eq_true hr)
    have := hrel (if_pos (by simp [Book.jacketNone, hnone]))
    rwa [if_neg hnot] at this
  · exact hreq (h := if_pos (by simp [Option.isSome_iff_ne_none.2 hr])) hj
  · rw [hexec, hworks h, hnil, hslot]
    cases timer <;> rfl
  · have hdec := hworks h
    rw [hcons] at hdec
    refine ⟨fun i hi hw => ?_, fun hw => ?_, fun hw hj => ?_⟩
    · subst hi
      rw [hexec, hdec]
      dsimp only
      rw [hw, ← hslot] <;> rfl
    · rw [hexec, hdec]
      dsimp only
      rw [hw, hslot] <;> rfl
    · refine hreq (h := ?_) hj
      rw [hdec]
      dsimp only
      rw [hw]

end Sys2Proof.Machine
end

section
/-! SUPPORT. What the timeouts of staging and casing leave (R99, R100, R104, R107, R110, R112). -/
namespace Sys2Proof.Machine

/-! ### The clock brought to an expiry -/

@[simp] theorem State.reach_stg (s : State) (t : Timer) : (s.reach t).stg = s.stg := by
  rw [State.reach_eq]
@[simp] theorem State.reach_press (s : State) (t : Timer) : (s.reach t).press = s.press := by
  rw [State.reach_eq]
@[simp] theorem State.reach_dlv (s : State) (t : Timer) : (s.reach t).dlv = s.dlv := by
  rw [State.reach_eq]
@[simp] theorem State.reach_table (s : State) (t : Timer) : (s.reach t).table = s.table := by
  rw [State.reach_eq]
@[simp] theorem State.reach_zones (s : State) (t : Timer) : (s.reach t).zones = s.zones := by
  rw [State.reach_eq]
@[simp] theorem State.reach_cfg (s : State) (t : Timer) : (s.reach t).cfg = s.cfg := by
  rw [State.reach_eq]
@[simp] theorem State.reach_io (s : State) (t : Timer) : (s.reach t).io = s.io := by
  rw [State.reach_eq]
@[simp] theorem State.reach_book? (s : State) (t : Timer) (r : Nat) :
    (s.reach t).book? r = s.book? r := by rw [State.reach_eq]; rfl

theorem State.reach_frame (s : State) (t : Timer) :
    { s.reach t with stg := s.stg, clock := s.clock } = s := by
  rw [State.reach_eq]

/-! ### A side without a waiting timer keeps its state as zones change -/

theorem State.side_stopZoneTimers {s : State} (h : s.stg.side.stopTimers = s.stg.side) (z : Zone) :
    (s.stopZoneTimers z).stg.side = s.stg.side := by
  unfold State.stopZoneTimers
  split
  · split <;> [rfl; exact h]
  · split <;> rfl
  all_goals rfl

theorem State.side_setZone {s : State} (h : s.stg.side.stopTimers = s.stg.side) (z : Zone)
    (st : ZoneState) : (s.setZone z st).stg.side = s.stg.side :=
  State.side_stopZoneTimers
    (s := { s with zones := s.zones.set z { s.zones.get z with state := st } }) h z

theorem State.side_drainTests {s : State} (h : s.stg.side.stopTimers = s.stg.side) :
    s.drainTests.stg.side = s.stg.side := by
  have htest {u : State} (hu : u.stg.side = s.stg.side) (z : Zone) :
      (u.drainTest z).stg.side = s.stg.side := by
    unfold State.drainTest
    split
    · exact (State.side_setZone (by rw [hu, h]) z _).trans hu
    · exact hu
  exact htest (htest (htest (htest rfl .a) .b) .p) .c

/-- A zone's control block after a report (R152). -/
def ZoneCtl.reported (k : ZoneCtl) (c : FaultCode) : ZoneCtl :=
  match k.state, k.code with
  | .stopped, _ | .running, _ | .draining, _ => { k with state := .faulted, code := some c }
  | .faulted, _ => { k with further := true }
  | .tripped, none => { k with code := some c }
  | .tripped, some _ => { k with further := true }

/-- A report: the zone's block, and its waiting timers stopped when it leaves the states in which they
run. -/
theorem State.fault_eq (s : State) (z : Zone) (c : FaultCode) : s.fault z c =
    if s.zoneState z = .faulted ∨ s.zoneState z = .tripped then
      { s with zones := s.zones.set z ((s.zones.get z).reported c) }
    else ({ s with zones := s.zones.set z ((s.zones.get z).reported c) } : State).stopZoneTimers z := by
  rcases hk : s.zones.get z with ⟨state, code, further⟩
  unfold State.fault State.zoneState
  rw [hk]
  cases state with
  | tripped => cases code <;> rfl
  | _ => rfl

theorem State.stopZoneTimers_unreserve (s : State) (z : Zone) :
    s.unreserve.stopZoneTimers z = (s.stopZoneTimers z).unreserve := by
  cases z with
  | b =>
    have hzone : s.unreserve.zoneState .b = s.zoneState .b := rfl
    simp only [State.stopZoneTimers, hzone, apply_ite State.unreserve]
    rfl
  | c =>
    have hactive : s.unreserve.active .c = s.active .c := rfl
    simp only [State.stopZoneTimers, hactive, apply_ite State.unreserve]
    rfl
  | a | p => rfl

/-- A report for a zone, and the reserved flag let go, in either order. -/
theorem State.fault_unreserve (s : State) (z : Zone) (c : FaultCode) :
    s.unreserve.fault z c = (s.fault z c).unreserve := by
  rw [State.fault_eq, State.fault_eq, apply_ite State.unreserve, ← State.stopZoneTimers_unreserve]
  rfl

theorem State.side_fault {s : State} (h : s.stg.side.stopTimers = s.stg.side) (z : Zone)
    (c : FaultCode) : (s.fault z c).stg.side = s.stg.side := by
  rw [State.fault_eq]
  split
  · rfl
  · exact State.side_stopZoneTimers
      (s := { s with zones := s.zones.set z ((s.zones.get z).reported c) }) h z

/-- The staging release taken as never commanded, the reserved case let go if it was forward. -/
theorem State.onStagingReleaseTimeout_spec {s u : State} (h : u = s ∨ u = s.unreserve) :
    let t := ((u.setSide (.idle .none)).fault .b .stagingJam).drainTests
    Decides ((s.setSide (.idle .none)).fault .b .stagingJam) t ∧ t.stg.side = .idle .none ∧
      t.stg.cases = u.stg.cases := by
  refine ⟨(decides_drainTests _).after ?_, ?_, by simp [State.setSide]⟩
  · rcases h with rfl | rfl
    · exact .refl _
    · rw [show s.unreserve.setSide (.idle .none) = (s.setSide (.idle .none)).unreserve from rfl,
        State.fault_unreserve]
      exact decides_staging _ _ _
  · have hside : ((u.setSide (.idle .none)).fault .b .stagingJam).stg.side = .idle .none :=
      State.side_fault rfl _ _
    rw [State.side_drainTests (by rw [hside]; rfl), hside]

/-! ### The head decision after a wait has run out -/

/-- A head that must be rejected: commanded when zone B is RUNNING, and otherwise left. -/
theorem State.stagingDecide_reject {s : State} {r : Nat} {rest : List Nat} {x : Book}
    (hside : s.stg.side = .idle .none) (hq : s.stg.queue = r :: rest) (hx : s.book? r = some x)
    (h : (∃ why, x.binding = some (.unbound why)) ∨ (x.binding ≠ none ∧ x.reason ≠ none)) :
    s.stagingDecide = s.setSide (if s.zoneState .b = .running then
      .rejectInFlight ⟨s.clock, s.cfg.releaseTimeout⟩ else .idle .none) := by
  by_cases hz : s.zoneState .b = .running
  · rw [if_pos hz, State.stagingDecide_eq hz hside hq hx, State.decideHead_reject h]
    rfl
  · rw [if_neg hz, State.stagingDecide_none (.inl hz), ← hside]
    rfl

theorem State.book?_unbind {s : State} {r : Nat} {b : Book} (hb : s.book? r = some b)
    (hlive : b.life ≠ .retired) (hbind : b.binding = some .early) (why : Reason) :
    (s.unbind r why).book? r =
      some { b with binding := some (.unbound why), reason := some (b.reason.getD why) } := by
  unfold State.unbind
  rw [State.book?_updBook_self, hb, Option.map_some, if_pos (b.live_iff.2 hlive), hbind]
  intro d
  split
  · split <;> rfl
  · rfl

theorem State.book?_setReason_none {s : State} {r : Nat} {b : Book} (hb : s.book? r = some b)
    (hlive : b.life ≠ .retired) (hreason : b.reason = none) (why : Reason) :
    (s.setReason r why).book? r = some { b with reason := some why } := by
  rw [book?_setReason why hb (b.live_iff.2 hlive), hreason]
  rfl

/-- A wait has run out, and what that did to the head's record asks for its reject. -/
theorem State.reject_afterWait {s u : State} {timer : Timer} {r : Nat} {rest : List Nat} {c : Book}
    (hu : { u with table := s.table } = (s.reach timer).setSide (.idle .none))
    (hq : s.stg.queue = r :: rest) (hc : u.book? r = some c)
    (h : (∃ why, c.binding = some (.unbound why)) ∨ (c.binding ≠ none ∧ c.reason ≠ none)) :
    u.stagingDecide.book? r = some c ∧
    u.stagingDecide.stg.side = (if s.zoneState .b = .running then
      .rejectInFlight ⟨(s.reach timer).clock, s.cfg.releaseTimeout⟩ else .idle .none) ∧
    { u.stagingDecide with table := s.table, stg := s.stg, clock := s.clock } = s := by
  have hstg : u.stg = { s.stg with side := .idle .none } :=
    ((congrArg State.stg hu :).trans (by rw [← s.reach_stg timer]; rfl))
  have hzone : u.zoneState .b = s.zoneState .b :=
    (congrArg (fun t : State => t.zones.b.state) hu :).trans
      (congrArg (fun zs : Zones => zs.b.state) (s.reach_zones timer))
  have hcfg : u.cfg = s.cfg := (congrArg State.cfg hu :).trans (s.reach_cfg timer)
  have hclock : u.clock = (s.reach timer).clock := (congrArg State.clock hu :)
  have hdecide := State.stagingDecide_reject (by rw [hstg]) (by rw [hstg]; exact hq) hc h
  rw [hdecide]
  refine ⟨hc, ?_, ?_⟩
  · rw [hzone, hcfg, hclock]; rfl
  · exact (congrArg (fun t : State => { t with stg := s.stg, clock := s.clock }) hu :).trans
      (s.reach_frame timer)

/-- Settles O51: each expiry's effect at the clock it is brought to. -/
theorem stagingTimeouts : Obligations.StagingTimeouts := by
  intro s timer r now
  have hexpire {i : Instr} {t : Option Timer} {f : State → State} (hexec : exec i s = .next (s.expire t f))
      (ht : t = some timer) : exec i s = .next (f now) := by rw [hexec, ht]; rfl
  have hstg : now.stg = s.stg := s.reach_stg timer
  refine ⟨fun h => ?_, fun h => ?_, fun h => ?_, fun h => ?_, fun h => ?_,
    fun b rest h hq hb hlive hbind => ?_, fun b rest h hq hb hlive hbind hreason => ?_⟩
  · refine ⟨_, hexpire (f := State.onStagingReleaseTimeout) rfl
      (by rw [State.stagingReleaseTimer, h]), ?_⟩
    have heq : now.onStagingReleaseTimeout =
        ((now.unreserve.setSide (.idle .none)).fault .b .stagingJam).drainTests := by
      simp only [State.onStagingReleaseTimeout, hstg, h]
    obtain ⟨hdec, hside, hcases⟩ := State.onStagingReleaseTimeout_spec (s := now) (.inr rfl)
    rw [heq]
    refine ⟨hdec, hside, hcases.trans ?_⟩
    show markHead false now.stg.cases = _
    rw [hstg]
    rfl
  · refine ⟨_, hexpire (f := State.onStagingReleaseTimeout) rfl
      (by rw [State.stagingReleaseTimer, h]), ?_⟩
    have heq : now.onStagingReleaseTimeout =
        ((now.setSide (.idle .none)).fault .b .stagingJam).drainTests := by
      simp only [State.onStagingReleaseTimeout, hstg, h]
    obtain ⟨hdec, hside, hcases⟩ := State.onStagingReleaseTimeout_spec (s := now) (.inl rfl)
    rw [heq]
    exact ⟨hdec, hside, hcases.trans (by rw [hstg])⟩
  · refine (hexpire (f := State.onCasingReleaseTimeout) rfl
      (by rw [State.casingReleaseTimer, h])).trans ?_
    simp only [State.onCasingReleaseTimeout, hstg, h]
  · refine (hexpire (f := State.onCaseEjectTimeout) rfl (by rw [State.caseEjectTimer, h])).trans ?_
    simp only [State.onCaseEjectTimeout, hstg]
  · refine (hexpire (f := State.onCasingTimeout) rfl (by rw [State.casingTimer, h])).trans ?_
    simp only [State.onCasingTimeout, hstg, h, State.setReason_eq]
  · have hbook := State.book?_unbind (s := now.setSide (.idle .none)) (r := r)
      (by rw [← hb]; exact s.reach_book? timer r) hlive hbind .noOrder
    have heq : now.onEarlyHoldExpiry =
        ((now.setSide (.idle .none)).unbind r .noOrder).stagingDecide := by
      simp only [State.onEarlyHoldExpiry, hstg, hq, List.head?_cons]
    obtain ⟨hread, hside, hframe⟩ := State.reject_afterWait (s := s) (timer := timer)
      (u := (now.setSide (.idle .none)).unbind r .noOrder) (by rw [← s.reach_table timer]; rfl) hq
      hbook (.inl ⟨_, rfl⟩)
    rw [← heq] at hread hside hframe
    exact ⟨_, _, hexpire rfl (by rw [State.earlyHoldTimer, h]), hread, rfl, rfl, hside, hframe⟩
  · have hbook := State.book?_setReason_none (s := now.setSide (.idle .none)) (r := r)
      (by rw [← hb]; exact s.reach_book? timer r) hlive hreason .noCase
    have heq : now.onCaseWaitExpiry =
        ((now.setSide (.idle .none)).setReason r .noCase).stagingDecide := by
      simp only [State.onCaseWaitExpiry, hstg, hq, List.head?_cons]
    obtain ⟨hread, hside, hframe⟩ := State.reject_afterWait (s := s) (timer := timer)
      (u := (now.setSide (.idle .none)).setReason r .noCase) (by rw [← s.reach_table timer]; rfl) hq
      hbook (.inr ⟨by rw [hbind]; simp, by simp⟩)
    rw [← heq] at hread hside hframe
    exact ⟨_, _, hexpire rfl (by rw [State.caseWaitTimer, h]), hread, rfl, hside, hframe⟩

end Sys2Proof.Machine
end

section
/-! SUPPORT. What a retirement leaves (R46, R29, R30). -/
namespace Sys2Proof.Machine

/-- A list of slots without those that are gone. -/
abbrev without (gone l : List Nat) : List Nat := l.filter (fun r => decide (r ∉ gone))

/-- What the retirement of the records in the slots `gone` leaves of all but their orders. -/
structure Gone (out : BookOutcome) (gone : List Nat) (s t : State) : Prop where
  frame : { t with
    orders := s.orders, table := s.table, gauge := s.gauge, stg := s.stg, press := s.press
    dlv := s.dlv } = s
  books : t.table.books =
    s.table.books.map (fun b => if b.slot ∈ gone then b.asRetired out s.clock else b)
  table : t.table = { s.table with
    books := t.table.books
    outcomes := s.table.outcomes ++ gone
    transit := without gone s.table.transit
    pressApproach := without gone s.table.pressApproach
    jacketApproach := without gone s.table.jacketApproach
    delivery := without gone s.table.delivery }
  gauge : t.gauge = { s.gauge with current := t.gauge.current }
  stg : t.stg = { s.stg with
    queue := without gone s.stg.queue
    casing := if s.stg.casing.record?.any (· ∈ gone) then .empty else s.stg.casing }
  press : t.press = { s.press with
    queue := without gone s.press.queue
    pockets := s.press.pockets.map (fun p => if p.any (· ∈ gone) then none else p) }
  dlv : t.dlv = { s.dlv with
    stop := if s.dlv.stop.record?.any (· ∈ gone) then .empty else s.dlv.stop }

theorem without_nil (l : List Nat) : without [] l = l := by simp [without]

theorem without_without (g h l : List Nat) : without h (without g l) = without (g ++ h) l := by
  rw [without, without, List.filter_filter]
  refine List.filter_congr fun r _ => ?_
  by_cases hg : r ∈ g <;> simp [hg]

theorem filter_bne (r : Nat) (l : List Nat) : l.filter (· != r) = without [r] l := by
  refine List.filter_congr fun q _ => ?_
  by_cases hq : q = r <;> simp [hq]

theorem any_singleton (o : Option Nat) (r : Nat) : o.any (· ∈ [r]) = true ↔ o = some r := by
  cases o <;> simp

theorem Book.slot_asRetired (b : Book) (out : BookOutcome) (now : Clock) :
    (b.asRetired out now).slot = b.slot := rfl

theorem State.accountRetirement_eq (s : State) (b : Book) (out : BookOutcome) :
    ∃ os, s.accountRetirement b out = { s with orders := os } := by
  unfold State.accountRetirement
  split <;> exact ⟨_, rfl⟩

theorem State.endGaugingOf_eq (s : State) (r : Nat) :
    ∃ current, s.endGaugingOf r = { s with gauge := { s.gauge with current := current } } := by
  unfold State.endGaugingOf
  split
  · split <;> exact ⟨_, rfl⟩
  · exact ⟨_, rfl⟩

/-- A retirement but for what it does to the order and to the gauging record. -/
theorem State.retire_form {s : State} {r : Nat} {b : Book} {out : BookOutcome} (hb : s.book? r = some b)
    (hout : outcomeFrom out b.life = true) : ∃ os current, s.retire r out =
      { (s.leaveCollections r).stampRetired r out with
        orders := os, gauge := { s.gauge with current := current } } := by
  obtain ⟨os, horders⟩ := ((s.leaveCollections r).stampRetired r out).accountRetirement_eq b out
  obtain ⟨current, hgauge⟩ := (({ (s.leaveCollections r).stampRetired r out with
    orders := os } : State)).endGaugingOf_eq r
  exact ⟨os, current, by rw [State.retire_eq hb hout, horders, hgauge]; rfl⟩

/-- One retirement. -/
theorem gone_retire {s : State} {r : Nat} {b : Book} {out : BookOutcome} (hb : s.book? r = some b)
    (hout : outcomeFrom out b.life = true) : Gone out [r] s (s.retire r out) := by
  obtain ⟨os, current, heq⟩ := State.retire_form hb hout
  rw [heq]
  refine ⟨rfl, ?_, ?_, rfl, ?_, ?_, ?_⟩
  · exact List.map_congr_left fun c _ => by simp [State.leaveCollections]
  · simp only [← filter_bne]; rfl
  · simp only [← filter_bne, any_singleton]; rfl
  · simp only [← filter_bne, any_singleton]; rfl
  · simp only [any_singleton]; rfl

theorem Gone.refl (out : BookOutcome) (s : State) : Gone out [] s s := by
  refine ⟨rfl, ?_, ?_, rfl, ?_, ?_, ?_⟩
  · simp
  · simp only [without_nil, List.append_nil]
  · simp [without_nil]
  · simp [without_nil]
  · simp

/-- A record's place in the table as some slots' records are retired. -/
theorem book?_mapRetired {out : BookOutcome} {gone : List Nat} {s t : State} (h : t.table.books =
      s.table.books.map (fun b => if b.slot ∈ gone then b.asRetired out s.clock else b)) (q : Nat) :
    t.book? q = (s.book? q).map (fun b => if q ∈ gone then b.asRetired out s.clock else b) := by
  have hslot : (fun b : Book => b.slot == q) ∘
      (fun b => if b.slot ∈ gone then b.asRetired out s.clock else b) = fun b => b.slot == q := by
    funext b
    simp only [Function.comp]
    split <;> rfl
  rw [State.book?, h, List.find?_map, hslot]
  cases hb : s.book? q with
  | none => rw [State.book?] at hb; rw [hb]; rfl
  | some b =>
    have hq : b.slot = q := State.slot_of_book? hb
    rw [State.book?] at hb
    rw [hb, Option.map_some, Option.map_some, hq]

theorem Gone.book? {out : BookOutcome} {gone : List Nat} {s t : State} (h : Gone out gone s t) (q : Nat) :
    t.book? q = (s.book? q).map (fun b => if q ∈ gone then b.asRetired out s.clock else b) :=
  book?_mapRetired h.books q

theorem Gone.clock {out : BookOutcome} {gone : List Nat} {s t : State} (h : Gone out gone s t) :
    t.clock = s.clock := (congrArg State.clock h.frame :)

/-- A slot tested against two lists in turn. -/
theorem ite_any_append {α : Type} (o : Option Nat) (g h : List Nat) (x e : α) (f : α → Option Nat)
    (hx : f x = o) (he : f e = none) :
    (if (f (if o.any (· ∈ g) then e else x)).any (· ∈ h) then e
      else if o.any (· ∈ g) then e else x) = if o.any (· ∈ g ++ h) then e else x := by
  cases o with
  | none => simp [hx]
  | some r => by_cases hg : r ∈ g <;> simp [hg, hx, he]

theorem Gone.trans {out : BookOutcome} {g h : List Nat} {s t u : State} (hs : Gone out g s t)
    (ht : Gone out h t u) (hdisjoint : ∀ r ∈ h, r ∉ g) : Gone out (g ++ h) s u where
  frame := (congrArg (fun v : State => { v with
      orders := s.orders, table := s.table, gauge := s.gauge, stg := s.stg, press := s.press
      dlv := s.dlv }) ht.frame :).trans hs.frame
  books := by
    rw [ht.books, hs.books, List.map_map, hs.clock]
    refine List.map_congr_left fun b _ => ?_
    by_cases hg : b.slot ∈ g
    · have hh : b.slot ∉ h := fun hh => hdisjoint _ hh hg
      simp [hg, hh, Book.slot_asRetired]
    · simp [hg]
  table := by
    rw [ht.table, hs.table]
    simp only [without_without, List.append_assoc]
  gauge := by rw [ht.gauge, hs.gauge]
  stg := by
    rw [ht.stg, hs.stg]
    simp only [without_without]
    rw [ite_any_append (f := CasingSide.record?) _ _ _ _ _ rfl rfl]
  press := by
    rw [ht.press, hs.press]
    simp only [without_without, List.map_map]
    congr 1
    refine List.map_congr_left fun p _ => ?_
    exact ite_any_append p g h p none id rfl rfl
  dlv := by
    rw [ht.dlv, hs.dlv]
    dsimp only
    rw [ite_any_append (f := JacketStop.record?) _ _ _ _ _ rfl rfl]

/-- Retirements one after another, of records in different slots. -/
theorem gone_removeAll {s : State} {rs : List Nat} (hnodup : rs.Nodup)
    (hlive : ∀ r ∈ rs, ∃ b, s.book? r = some b ∧ b.life ≠ .retired) :
    Gone .removed rs s (s.removeAll rs) := by
  induction rs generalizing s with
  | nil => exact .refl _ _
  | cons r rs ih =>
    obtain ⟨b, hb, hbl⟩ := hlive r List.mem_cons_self
    obtain ⟨hr, hrs⟩ := List.nodup_cons.1 hnodup
    have hone : Gone .removed [r] s (s.retire r .removed) :=
      gone_retire hb (decide_eq_true hbl)
    refine hone.trans (ih hrs fun q hq => ?_) (fun q hq hmem => ?_)
    · obtain ⟨c, hc, hcl⟩ := hlive q (List.mem_cons_of_mem _ hq)
      have hne : q ∉ [r] := fun h => hr (List.mem_singleton.1 h ▸ hq)
      exact ⟨c, by rw [hone.book? q, hc, Option.map_some, if_neg hne], hcl⟩
    · exact hr (List.mem_singleton.1 hmem ▸ hq)

end Sys2Proof.Machine
end

section
/-! SUPPORT. A retirement accounted to its order, and the obligation on retirement (R29, R30, R46). -/
namespace Sys2Proof.Machine

/-- The outcome counter up, in_process down, and the copy marked (R29). -/
def Order.accounted (o : Order) (out : BookOutcome) (copy : Nat) (now : Clock) : Order :=
  let n := o.tmpl.order
  let k := { o.counters with inProcess := o.counters.inProcess - 1 }
  match out with
  | .good => { o with counters := { k with good := countUp n 2 now k.good } }.setCopy copy .finished
  | .inspect =>
    { o with counters := { k with inspect := countUp n 3 now k.inspect } }.setCopy copy .finished
  | .rejected _ =>
    { o with counters := { k with rejected := countUp n 4 now k.rejected } }.setCopy copy .rejected
  | .lost => { o with counters := { k with lost := countUp n 5 now k.lost } }.setCopy copy .rejected
  | .removed =>
    { o with counters := { k with removed := countUp n 6 now k.removed } }.setCopy copy .rejected

theorem Order.account_eq (o : Order) (out : BookOutcome) (copy : Nat) (now : Clock) :
    o.account out copy now = if out = .good ∨ out = .inspect
      then (o.accounted out copy now).testCompletion else o.accounted out copy now := by
  cases out <;> rfl

theorem Order.accounted_frame (o : Order) (out : BookOutcome) (copy : Nat) (now : Clock) :
    { o.accounted out copy now with counters := o.counters, copyMap := o.copyMap } = o := by
  cases out <;> rfl

theorem Order.accounted_copyMap (o : Order) (out : BookOutcome) (copy : Nat) (now : Clock) :
    (o.accounted out copy now).copyMap = o.copyMap.set (copy - 1)
      (if out = .good ∨ out = .inspect then .finished else .rejected) := by
  cases out <;> rfl

theorem countUp_of_lt (n k : Nat) (now : Clock) {v : Nat} (h : v < 4294967295) :
    countUp n k now v = v + 1 := if_pos h

theorem Order.accounted_counters (o : Order) (out : BookOutcome) (copy : Nat) (now : Clock)
    (hgood : o.counters.good < 4294967295) (hinspect : o.counters.inspect < 4294967295)
    (hrejected : o.counters.rejected < 4294967295) (hlost : o.counters.lost < 4294967295)
    (hremoved : o.counters.removed < 4294967295) :
    (o.accounted out copy now).counters = { o.counters with
      inProcess := o.counters.inProcess - 1
      good := o.counters.good + (if out = .good then 1 else 0)
      inspect := o.counters.inspect + (if out = .inspect then 1 else 0)
      rejected := o.counters.rejected +
        (if out ≠ .good ∧ out ≠ .inspect ∧ out ≠ .lost ∧ out ≠ .removed then 1 else 0)
      lost := o.counters.lost + (if out = .lost then 1 else 0)
      removed := o.counters.removed + (if out = .removed then 1 else 0) } := by
  cases out <;> simp [Order.accounted, Order.setCopy, countUp_of_lt, *]

theorem Order.testCompletion_frame (o : Order) :
    { o.testCompletion with state := o.state, unreported := o.unreported } = o := by
  unfold Order.testCompletion
  split <;> rfl

theorem Order.meetsCompletion_iff (o : Order) : o.meetsCompletion = true ↔ match o.tmpl.mode with
    | .copyExact => ∀ st ∈ o.copyMap, st = .finished
    | .title => o.counters.good + o.counters.inspect = o.copies := by
  unfold Order.meetsCompletion
  cases o.tmpl.mode <;> simp

/-- The completion test: a met test completes an order, and nothing else moves (R30). -/
theorem Order.testCompletion_met {o : Order} (h : o.meetsCompletion = true) (hs : o.state ≠ .complete) :
    o.testCompletion = { o with state := .complete, unreported := true } :=
  if_pos (by simp [h, hs])

theorem Order.testCompletion_unmet {o : Order} (h : o.meetsCompletion = false ∨ o.state = .complete) :
    o.testCompletion = o :=
  if_neg (by rcases h with h | h <;> simp [h])

/-- The orders after a retirement are those to which it was accounted. -/
theorem State.retire_orders {s : State} {r : Nat} {b : Book} {out : BookOutcome}
    (hb : s.book? r = some b) (hout : outcomeFrom out b.life = true) :
    (s.retire r out).orders = (s.accountRetirement b out).orders := by
  have hend (t : State) : (t.endGaugingOf r).orders = t.orders := by
    obtain ⟨current, h⟩ := t.endGaugingOf_eq r
    rw [h]
  rw [State.retire_eq hb hout, hend]
  unfold State.accountRetirement
  split <;> rfl

/-- What accounting leaves of an order (R29, R30). -/
theorem Order.account_spec (o : Order) (out : BookOutcome) (copy : Nat) (now : Clock) :
    let p := o.account out copy now
    let met := (out = .good ∨ out = .inspect) ∧ (match o.tmpl.mode with
      | .copyExact => ∀ st ∈ p.copyMap, st = .finished
      | .title => p.counters.good + p.counters.inspect = o.copies)
    p.counters = (o.accounted out copy now).counters ∧
    p.copyMap = (o.accounted out copy now).copyMap ∧
    (met → o.state ≠ .complete → p.state = .complete ∧ p.unreported = true) ∧
    (¬ met ∨ o.state = .complete → p.state = o.state ∧ p.unreported = o.unreported) ∧
    p.slot = o.slot ∧ p.tmpl = o.tmpl ∧ p.copies = o.copies ∧ p.proofTaken = o.proofTaken := by
  intro p met
  have hframe := o.accounted_frame out copy now
  have htest := (o.accounted out copy now).testCompletion_frame
  have hp : p = if out = .good ∨ out = .inspect
      then (o.accounted out copy now).testCompletion else o.accounted out copy now :=
    o.account_eq out copy now
  have hbase : { p with
      state := (o.accounted out copy now).state
      unreported := (o.accounted out copy now).unreported } = o.accounted out copy now := by
    rw [hp]
    split <;> [exact htest; rfl]
  have hcounters : p.counters = (o.accounted out copy now).counters := (congrArg Order.counters hbase :)
  have hcopies : p.copyMap = (o.accounted out copy now).copyMap := (congrArg Order.copyMap hbase :)
  have hmet : met ↔ (out = .good ∨ out = .inspect) ∧
      (o.accounted out copy now).meetsCompletion = true := by
    refine and_congr Iff.rfl ?_
    rw [Order.meetsCompletion_iff, hcounters, hcopies,
      (congrArg (fun q : Order => q.tmpl.mode) hframe :),
      (congrArg (fun q : Order => q.copies) hframe :)]
  have hstate : (o.accounted out copy now).state = o.state := (congrArg Order.state hframe :)
  refine ⟨hcounters, hcopies, fun h hs => ?_, fun h => ?_,
    (congrArg Order.slot hbase :).trans (congrArg Order.slot hframe :),
    (congrArg Order.tmpl hbase :).trans (congrArg Order.tmpl hframe :),
    (congrArg Order.copies hbase :).trans (congrArg Order.copies hframe :),
    (congrArg Order.proofTaken hbase :).trans (congrArg Order.proofTaken hframe :)⟩
  · obtain ⟨hout, hm⟩ := hmet.1 h
    rw [hp, if_pos hout, Order.testCompletion_met hm (by rwa [hstate])]
    exact ⟨rfl, rfl⟩
  · have hbare : p = o.accounted out copy now := by
      rw [hp]
      split
      · next hout =>
        refine Order.testCompletion_unmet ?_
        rcases h with h | h
        · exact .inl (Bool.eq_false_iff.2 fun hm => h (hmet.2 ⟨hout, hm⟩))
        · exact .inr (hstate.trans h)
      · rfl
    rw [hbare]
    exact ⟨hstate, (congrArg Order.unreported hframe :)⟩

/-- Settles O56: the collections by `Gone`, the order by `account_spec`. -/
theorem retirement : Obligations.Retirement := by
  refine fun s r b out hb => ⟨State.retire_ignored hb, fun hout => ?_⟩
  have hgone := gone_retire hb hout
  have horders := State.retire_orders hb hout
  have hself (l : List Nat) : r ∉ without [r] l := by simp
  intro t
  have htable := hgone.table
  refine ⟨by rw [htable], ?_, fun q hq => ?_, by rw [htable]; exact hself _,
    by rw [hgone.stg]; exact hself _, ?_, by rw [htable]; exact hself _,
    by rw [hgone.press]; exact hself _, ?_, by rw [htable]; exact hself _, ?_,
    by rw [htable]; exact hself _, fun hunbound => ?_, fun i o hbind hi ho hg hn hr hl hm => ?_⟩
  · rw [hgone.book? r, hb, Option.map_some, if_pos (List.mem_singleton_self r)]
  · rw [hgone.book? q]
    simp [hq]
  · rw [hgone.stg]
    dsimp only
    split
    · simp [CasingSide.record?]
    · next h => exact fun hrec => h ((any_singleton _ _).2 hrec)
  · rw [hgone.press]
    simp only [List.mem_map, any_singleton, not_exists, not_and]
    intro p _
    split
    · simp
    · assumption
  · rw [hgone.dlv]
    dsimp only
    split
    · simp [JacketStop.record?]
    · next h => exact fun hrec => h ((any_singleton _ _).2 hrec)
  · rw [horders]
    unfold State.accountRetirement
    split
    · next h _ => exact absurd h hunbound
    · rfl
  · have hfix (q : Order) : (q.account out i.copy s.clock).tmpl.order = q.tmpl.order := by
      obtain ⟨-, -, -, -, -, htmpl, -⟩ := q.account_spec out i.copy s.clock
      rw [htmpl]
    have hread (k : Nat) : t.order? k = (s.updOrder i.order (fun o =>
        o.account out i.copy s.clock)).order? k := by
      have : t.orders = (s.updOrder i.order (fun o => o.account out i.copy s.clock)).orders := by
        rw [horders, State.accountRetirement, hbind, hi]
      rw [State.order?, State.order?, this]
    obtain ⟨hcounters, hcopies, hmet, hunmet, hslot, htmpl, hcount, hproof⟩ :=
      o.account_spec out i.copy s.clock
    rw [Order.accounted_counters o out i.copy s.clock hg hn hr hl hm] at hcounters
    have hkey : o.tmpl.order = i.order := by simpa using List.find?_some ho
    refine ⟨o.account out i.copy s.clock, ?_, by rw [hcounters], by rw [hcounters],
      by rw [hcounters], by rw [hcounters], by rw [hcounters], by rw [hcounters], by rw [hcounters],
      fun h1 hle => ?_, fun hc hne => ?_, ⟨fun h hs => ?_, hunmet⟩, hslot, htmpl, hcount, hproof,
      fun k hk => ?_⟩
    · rw [hread, State.order?_updOrder _ _ _ _ hfix, ho]
      simp [hkey]
    · rw [hcopies, Order.accounted_copyMap, List.getElem?_set_self (by omega)]
    · by_cases h : (out = .good ∨ out = .inspect) ∧ (match o.tmpl.mode with
          | .copyExact => ∀ st ∈ (o.account out i.copy s.clock).copyMap, st = .finished
          | .title => (o.account out i.copy s.clock).counters.good +
              (o.account out i.copy s.clock).counters.inspect = o.copies)
      · exact ⟨(hmet h hne).2, h.1⟩
      · exact absurd ((hunmet (.inl h)).1.symm.trans hc) hne
    · exact hmet h (by rcases hs with hs | hs <;> simp [hs])
    · rw [hread, State.order?_updOrder _ _ _ _ hfix]
      cases hko : s.order? k with
      | none => rfl
      | some q =>
        have hq : q.tmpl.order = k := by simpa using List.find?_some hko
        simp [hq, hk]

end Sys2Proof.Machine
end

section
/-! SUPPORT. What the head tests of a watch point leave (R66, R67, R70, R71). -/
namespace Sys2Proof.Machine

/-- What losing the heads of a watch point one after another leaves of all but the orders, the gauging
record and the waiting timers; `Q` holds of each record that is lost. -/
structure Loses (w : Watch) (Q : Book → Prop) (gone : List Nat) (s t : State) : Prop where
  lost : ∀ r ∈ gone, ∃ x, s.book? r = some x ∧ headState w x.life = true ∧ Q x
  frame : { t with
    orders := s.orders, table := s.table, trk := s.trk, gauge := s.gauge, stg := s.stg, press := s.press
    dlv := s.dlv, zones := s.zones } = s
  books : t.table.books =
    s.table.books.map (fun b => if b.slot ∈ gone then b.asRetired .lost s.clock else b)
  table : t.table = { s.table with
    books := t.table.books
    outcomes := s.table.outcomes ++ gone
    transit := without gone s.table.transit
    pressApproach := without gone s.table.pressApproach
    jacketApproach := without gone s.table.jacketApproach
    delivery := without gone s.table.delivery }
  trk : t.trk = { s.trk with
    opened := if gone = [] then s.trk.opened else s.trk.opened.set w false }
  gauge : t.gauge = { s.gauge with current := t.gauge.current }
  stg : t.stg = { s.stg with
    queue := without gone s.stg.queue
    casing := if s.stg.casing.record?.any (· ∈ gone) then .empty else s.stg.casing
    cases := if w = .casing ∧ gone ≠ [] then markHead false s.stg.cases else s.stg.cases
    side := t.stg.side }
  press : t.press = { s.press with
    queue := without gone s.press.queue
    pockets := s.press.pockets.map (fun p => if p.any (· ∈ gone) then none else p) }
  dlv : t.dlv = { s.dlv with stop := t.dlv.stop }
  stop : t.dlv.stop.record? =
    if s.dlv.stop.record?.any (· ∈ gone) then none else s.dlv.stop.record?
  zones : ∀ y, t.zones.get y = if y = beltZone (watchBelt w)
    then gone.foldl (fun k _ => k.reported .missing) (s.zones.get y) else s.zones.get y

theorem outcomeFrom_lost {w : Watch} {l : Life} (h : headState w l = true) :
    outcomeFrom .lost l = true := by
  cases w <;> cases l <;> first | rfl | cases h

/-- The stop with its waiting timer stopped or not holds the same record. -/
theorem State.stop_fault (s : State) (z : Zone) (c : FaultCode) :
    (s.fault z c).dlv.stop.record? = s.dlv.stop.record? := by
  rw [State.fault_eq]
  split
  · rfl
  · exact (decides_stopZoneTimers ({ s with
      zones := s.zones.set z ((s.zones.get z).reported c) } : State) z).stop

theorem State.zones_fault_get (s : State) (z y : Zone) (c : FaultCode) : (s.fault z c).zones.get y =
    if y = z then (s.zones.get z).reported c else s.zones.get y := by
  rw [State.fault_eq]
  split
  · exact Zones.get_set _ _ _ _
  · rw [State.stopZoneTimers_zones, Zones.get_set]

theorem Loses.refl (w : Watch) (Q : Book → Prop) (s : State) : Loses w Q [] s s := by
  have h := Gone.refl .lost s
  refine ⟨by simp, rfl, h.books, h.table, rfl, rfl, ?_, h.press, rfl, by simp, by simp⟩
  rw [if_neg (by simp)]
  exact h.stg

/-- A report leaves all but its zone and the waiting timers. -/
theorem State.fault_rest (s : State) (z : Zone) (c : FaultCode) : ∃ (zs : Zones) (side : StagingSide)
    (stop : JacketStop), s.fault z c =
      { s with zones := zs, stg := { s.stg with side := side }, dlv := { s.dlv with stop := stop } } ∧
      stop.record? = s.dlv.stop.record? ∧
      ∀ y, zs.get y = if y = z then (s.zones.get z).reported c else s.zones.get y :=
  ⟨(s.fault z c).zones, (s.fault z c).stg.side, (s.fault z c).dlv.stop,
    (congrArg (fun t : State => { t with
      zones := (s.fault z c).zones
      stg := { t.stg with side := (s.fault z c).stg.side }
      dlv := { t.dlv with stop := (s.fault z c).dlv.stop } }) (s.fault_frame z c) :),
    s.stop_fault z c, fun y => s.zones_fault_get z y c⟩

theorem State.loseHead_eq (s : State) (w : Watch) (b : Book) : s.loseHead w b =
    (({ s.retire b.slot .lost with stg := { (s.retire b.slot .lost).stg with
        cases := if w = Watch.casing then markHead false (s.retire b.slot .lost).stg.cases
          else (s.retire b.slot .lost).stg.cases } } : State).fault
      (beltZone (watchBelt w)) .missing).setOpened w false := by
  cases w <;> rfl

theorem loses_loseHead {s : State} {w : Watch} {b : Book} {Q : Book → Prop} (hb : s.head? w = some b)
    (hq : Q b) : Loses w Q [b.slot] s (s.loseHead w b) := by
  have hbook := State.book?_of_head? hb
  have hlife := State.life_of_head? hb
  have hgone : Gone .lost [b.slot] s (s.retire b.slot .lost) :=
    gone_retire hbook (outcomeFrom_lost hlife)
  have hlose : s.loseHead w b = _ := s.loseHead_eq w b
  generalize hu : ({ s.retire b.slot .lost with stg := { (s.retire b.slot .lost).stg with
    cases := if w = Watch.casing then markHead false (s.retire b.slot .lost).stg.cases
      else (s.retire b.slot .lost).stg.cases } } : State) = u at hlose
  obtain ⟨zs, side, stop, hfault, hstop, hzones⟩ := u.fault_rest (beltZone (watchBelt w)) .missing
  have htrk : (s.retire b.slot .lost).trk = s.trk := (congrArg State.trk hgone.frame :)
  have hut : u.trk = s.trk := by rw [← hu]; exact htrk
  have hust : u.stg = { s.stg with
      queue := without [b.slot] s.stg.queue
      casing := if s.stg.casing.record?.any (· ∈ [b.slot]) then .empty else s.stg.casing
      cases := if w = Watch.casing then markHead false s.stg.cases else s.stg.cases } := by
    rw [← hu]
    exact (congrArg (fun v : StagingUnit => { v with
      cases := if w = Watch.casing then markHead false v.cases else v.cases }) hgone.stg :)
  have hzs : u.zones = s.zones := by rw [← hu]; exact (congrArg State.zones hgone.frame :)
  have hdlv : u.dlv = (s.retire b.slot .lost).dlv := by rw [← hu]
  rw [hlose, hfault]
  exact {
    lost := fun r hr => by
      obtain rfl := List.mem_singleton.1 hr
      exact ⟨b, hbook, hlife, hq⟩
    frame := by
      rw [← hu]
      exact (congrArg (fun v : State => { v with zones := s.zones, trk := s.trk }) hgone.frame :)
    books := by rw [← hu]; exact hgone.books
    table := by rw [← hu]; exact hgone.table
    trk := by
      show { u.trk with opened := u.trk.opened.set w false } = _
      rw [hut, if_neg (List.cons_ne_nil _ _)]
    gauge := by rw [← hu]; exact hgone.gauge
    stg := by
      show { u.stg with side := side } = _
      rw [hust]
      simp only [ne_eq, List.cons_ne_nil, not_false_eq_true, and_true]
      rfl
    press := by rw [← hu]; exact hgone.press
    dlv := by
      show { u.dlv with stop := stop } = _
      rw [hdlv, hgone.dlv]
      rfl
    stop := by
      show stop.record? = _
      rw [hstop, hdlv, hgone.dlv]
      exact apply_ite JacketStop.record? _ _ _
    zones := fun y => by
      show zs.get y = _
      rw [hzones, hzs]
      split
      · next h => rw [h]; rfl
      · rfl }

/-- A record's place in the table as one watch point's heads are lost. -/
theorem Loses.book? {w : Watch} {Q : Book → Prop} {gone : List Nat} {s t : State}
    (h : Loses w Q gone s t) (q : Nat) :
    t.book? q = (s.book? q).map (fun b => if q ∈ gone then b.asRetired .lost s.clock else b) :=
  book?_mapRetired h.books q

theorem Loses.clock {w : Watch} {Q : Book → Prop} {gone : List Nat} {s t : State}
    (h : Loses w Q gone s t) : t.clock = s.clock := (congrArg State.clock h.frame :)

theorem Loses.trans {w : Watch} {Q : Book → Prop} {g h : List Nat} {s t u : State}
    (hs : Loses w Q g s t) (ht : Loses w Q h t u) : Loses w Q (g ++ h) s u := by
  have hdisjoint : ∀ r ∈ h, r ∉ g ∧ ∃ x, s.book? r = some x ∧ headState w x.life = true ∧ Q x := by
    intro r hr
    obtain ⟨x, hx, hlife, hq⟩ := ht.lost r hr
    rw [hs.book? r] at hx
    obtain ⟨y, hy, hyx⟩ := Option.map_eq_some_iff.1 hx
    by_cases hg : r ∈ g
    · rw [if_pos hg] at hyx
      exact absurd (by rw [← hyx]; rfl) (live_of_headState hlife)
    · rw [if_neg hg] at hyx
      exact ⟨hg, y, hy, hyx ▸ hlife, hyx ▸ hq⟩
  exact {
    lost := fun r hr => by
      rcases List.mem_append.1 hr with hr | hr
      · exact hs.lost r hr
      · exact (hdisjoint r hr).2
    frame := (congrArg (fun v : State => { v with
      orders := s.orders, table := s.table, trk := s.trk, gauge := s.gauge, stg := s.stg
      press := s.press, dlv := s.dlv, zones := s.zones }) ht.frame :).trans hs.frame
    books := by
      rw [ht.books, hs.books, List.map_map, hs.clock]
      refine List.map_congr_left fun b _ => ?_
      by_cases hg : b.slot ∈ g
      · have hh : b.slot ∉ h := fun hh => (hdisjoint _ hh).1 hg
        simp [hg, hh, Book.slot_asRetired]
      · simp [hg]
    table := by
      rw [ht.table, hs.table]
      simp only [without_without, List.append_assoc]
    trk := by
      rw [ht.trk, hs.trk]
      by_cases hg : g = [] <;> by_cases hh : h = [] <;> simp [hg, hh]
      cases w <;> rfl
    gauge := by rw [ht.gauge, hs.gauge]
    stg := by
      rw [ht.stg, hs.stg]
      simp only [without_without]
      rw [ite_any_append (f := CasingSide.record?) _ _ _ _ _ rfl rfl]
      congr 1
      by_cases hw : w = .casing <;> by_cases hg : g = [] <;> by_cases hh : h = [] <;>
        simp [hw, hg, hh]
      cases s.stg.cases <;> rfl
    press := by
      rw [ht.press, hs.press]
      simp only [without_without, List.map_map]
      congr 1
      refine List.map_congr_left fun p _ => ?_
      exact ite_any_append p g h p none id rfl rfl
    dlv := by rw [ht.dlv, hs.dlv]
    stop := by
      rw [ht.stop, hs.stop]
      exact ite_any_append s.dlv.stop.record? g h s.dlv.stop.record? none id rfl rfl
    zones := fun y => by
      rw [ht.zones, hs.zones]
      split
      · rw [List.foldl_append]
      · rfl }

end Sys2Proof.Machine
end

section
/-! SUPPORT. The head tests of a watch point, on to the next head for as long as one is missing (R71). -/
namespace Sys2Proof.Machine

/-- A record that lies beyond the window of a watch point (R70). -/
def State.Beyond (s : State) (w : Watch) (x : Book) : Prop :=
  ∃ p, x.position = some p ∧ (s.cfg.window.get (watchBelt w) : Int) <
    sdiff (s.belt (watchBelt w)).count (p.2 + BitVec.ofNat 16 (watchDistance s.cfg w))

/-- The head of a watch point is tested, and not missing: what is left is `t` (R71). -/
def State.HeadTested (u : State) (w : Watch) (t : State) : Prop :=
  match u.target? w with
  | none => t = u
  | some (b, target) =>
    if u.inWindow w target then t = if u.trk.opened.get w then u else u.openWindow w b
    else sdiff (u.belt (watchBelt w)).count target < -(u.cfg.window.get (watchBelt w) : Int) ∧ t = u

/-- The number of records that could be a head of the watch point. -/
def State.headCount (s : State) (w : Watch) : Nat :=
  s.table.books.countP (fun b => headState w b.life)

theorem countP_lt {α : Type} {p q : α → Bool} {l : List α} (hqp : ∀ c ∈ l, q c = true → p c = true)
    {b : α} (hb : b ∈ l) (hp : p b = true) (hq : q b = false) : l.countP q < l.countP p := by
  induction l with
  | nil => cases hb
  | cons c l ih =>
    have hle : l.countP q ≤ l.countP p :=
      List.countP_mono_left fun d hd => hqp d (List.mem_cons_of_mem c hd)
    rcases List.mem_cons.1 hb with rfl | hb
    · simp only [List.countP_cons, hp, hq]
      simp only [ite_true, Bool.false_eq_true, ite_false]
      omega
    · have := ih (fun d hd => hqp d (List.mem_cons_of_mem c hd)) hb
      have hc := hqp c List.mem_cons_self
      simp only [List.countP_cons]
      by_cases hqc : q c = true
      · rw [if_pos hqc, if_pos (hc hqc)]; omega
      · rw [if_neg hqc]; omega

theorem Loses.cfg {w : Watch} {Q : Book → Prop} {gone : List Nat} {s t : State}
    (h : Loses w Q gone s t) : t.cfg = s.cfg := (congrArg State.cfg h.frame :)

theorem Loses.belt {w : Watch} {Q : Book → Prop} {gone : List Nat} {s t : State}
    (h : Loses w Q gone s t) (z : Belt) : t.belt z = s.belt z := by rw [State.belt, h.trk]; rfl

theorem Loses.beyond {w : Watch} {Q : Book → Prop} {gone : List Nat} {s t : State}
    (h : Loses w Q gone s t) : t.Beyond w = s.Beyond w := by
  unfold State.Beyond
  rw [h.cfg, h.belt]

theorem headCount_loseHead {s : State} {w : Watch} {b : Book} (hb : s.head? w = some b) :
    (s.loseHead w b).headCount w < s.headCount w := by
  have hloses := loses_loseHead (Q := fun _ => True) hb trivial
  have hretired (c : Book) : headState w (c.asRetired .lost s.clock).life = false := by
    show headState w .retired = false
    cases w <;> rfl
  rw [State.headCount, hloses.books, List.countP_map]
  refine countP_lt (b := b) (fun c _ hc => ?_) (State.mem_of_book? (State.book?_of_head? hb))
    (State.life_of_head? hb) ?_
  · simp only [Function.comp] at hc
    split at hc
    · rw [hretired] at hc; cases hc
    · exact hc
  · simp only [Function.comp, List.mem_singleton, ite_true, hretired]

theorem State.position_of_target? {s : State} {w : Watch} {b : Book} {t : Count}
    (h : s.target? w = some (b, t)) : ∃ p, b.position = some p ∧
      t = p.2 + BitVec.ofNat 16 (watchDistance s.cfg w) := by
  rw [State.target?, State.head?_of_target? h] at h
  obtain ⟨p, hp, heq⟩ := Option.map_eq_some_iff.1 h
  exact ⟨p, hp, ((Prod.mk.inj heq).2).symm⟩

/-- With fuel for every head it could lose, the test goes on until a head is not missing. -/
theorem testHead_spec {w : Watch} (fuel : Nat) {s : State} (hfuel : s.headCount w < fuel) :
    ∃ gone u, Loses w (s.Beyond w) gone s u ∧ u.HeadTested w (s.testHead fuel w) := by
  induction fuel generalizing s with
  | zero => omega
  | succ fuel ih =>
    unfold State.testHead
    cases htarget : s.target? w with
    | none => exact ⟨[], s, .refl _ _ _, by rw [State.HeadTested, htarget]⟩
    | some bt =>
      obtain ⟨b, target⟩ := bt
      dsimp only
      by_cases hin : s.inWindow w target = true
      · refine ⟨[], s, .refl _ _ _, ?_⟩
        rw [State.HeadTested, htarget]
        dsimp only
        rw [if_pos hin]
        exact if_pos hin
      · rw [if_neg hin]
        by_cases hbeyond : (s.cfg.window.get (watchBelt w) : Int) <
            sdiff (s.belt (watchBelt w)).count target
        · rw [if_pos hbeyond]
          have hhead := State.head?_of_target? htarget
          have hq : s.Beyond w b := by
            obtain ⟨p, hp, rfl⟩ := State.position_of_target? htarget
            exact ⟨p, hp, hbeyond⟩
          have hone := loses_loseHead hhead hq
          obtain ⟨gone, u, hrest, htested⟩ :=
            ih (s := s.loseHead w b) (by have := headCount_loseHead hhead; omega)
          rw [hone.beyond] at hrest
          exact ⟨_, u, hone.trans hrest, htested⟩
        · rw [if_neg hbeyond]
          refine ⟨[], s, .refl _ _ _, ?_⟩
          rw [State.HeadTested, htarget]
          dsimp only
          rw [if_neg hin]
          refine ⟨?_, rfl⟩
          simp only [State.inWindow, decide_eq_true_iff] at hin
          omega

theorem State.headCount_lt_headFuel (s : State) (w : Watch) : s.headCount w < s.headFuel :=
  Nat.lt_succ_of_le List.countP_le_length

/-- A head may have changed: every head already missing is lost, and the one left is tested (R71). -/
theorem newHead_spec (s : State) (w : Watch) : ∃ gone u,
    Loses w (s.Beyond w) gone (s.setOpened w false) u ∧ u.trk.opened.get w = false ∧
      u.HeadTested w (s.newHead w) := by
  obtain ⟨gone, u, hloses, htested⟩ :=
    testHead_spec s.headFuel (s := s.setOpened w false) (s.headCount_lt_headFuel w)
  refine ⟨gone, u, hloses, ?_, htested⟩
  have hset (p : PerWatch Bool) : (p.set w false).get w = false := by cases w <;> rfl
  rw [hloses.trk]
  dsimp only
  split
  · exact hset _
  · exact hset _

end Sys2Proof.Machine
end

section
/-! SUPPORT. What the timeouts of the press and of the delivery unit leave (R127 to R129, R138 to
R141). -/
namespace Sys2Proof.Machine

/-! ### Zones under a report and under the decisions -/

theorem ZoneCtl.reported_state (k : ZoneCtl) (c : FaultCode) :
    (k.reported c).state = if k.state = .tripped then .tripped else .faulted := by
  rcases k with ⟨state, code, further⟩
  cases state with
  | tripped => cases code <;> rfl
  | _ => rfl

/-- Further reports for a zone that already holds a code move nothing but its flag. -/
theorem ZoneCtl.reports_faulted {α : Type} (l : List α) {k : ZoneCtl} (c : FaultCode)
    (h : k.state = .faulted ∨ (k.state = .tripped ∧ k.code ≠ none)) :
    (l.foldl (fun k _ => k.reported c) k).state = k.state ∧
      (l.foldl (fun k _ => k.reported c) k).code = k.code := by
  induction l generalizing k with
  | nil => exact ⟨rfl, rfl⟩
  | cons _ l ih =>
    have hstep : (k.reported c).state = k.state ∧ (k.reported c).code = k.code := by
      rcases k with ⟨state, code, further⟩
      rcases h with h | ⟨h, hcode⟩
      · cases h; exact ⟨rfl, rfl⟩
      · cases h
        obtain ⟨v, rfl⟩ := Option.ne_none_iff_exists'.1 hcode
        exact ⟨rfl, rfl⟩
    obtain ⟨hs, hc⟩ := ih (k := k.reported c) (by rw [hstep.1, hstep.2]; exact h)
    exact ⟨hs.trans hstep.1, hc.trans hstep.2⟩

/-- A report leaves its zone with a code. -/
theorem ZoneCtl.reported_holds (k : ZoneCtl) (c : FaultCode) : (k.reported c).state = .faulted ∨
    ((k.reported c).state = .tripped ∧ (k.reported c).code ≠ none) := by
  rcases k with ⟨state, code, further⟩
  cases state with
  | tripped => cases code <;> exact .inr ⟨rfl, by simp [ZoneCtl.reported]⟩
  | _ => exact .inl rfl

theorem Decides.awaited {s t : State} (h : Decides s t) : t.press.awaited = s.press.awaited :=
  (congrArg PressUnit.awaited h.press :)
theorem Decides.outcomes {s t : State} (h : Decides s t) : t.table.outcomes = s.table.outcomes :=
  (congrArg BookTable.outcomes h.table :)
theorem Decides.jacketApproach {s t : State} (h : Decides s t) :
    t.table.jacketApproach = s.table.jacketApproach := (congrArg BookTable.jacketApproach h.table :)

theorem Decides.zone_eq {s t : State} (h : Decides s t) {z : Zone} (hz : s.zoneState z ≠ .draining) :
    t.zones.get z = s.zones.get z := by
  rcases h.zones z with heq | ⟨hd, -⟩
  · exact heq
  · exact absurd hd hz

theorem Decides.zoneState_eq {s t : State} (h : Decides s t) {z : Zone}
    (hz : s.zoneState z ≠ .draining) : t.zoneState z = s.zoneState z :=
  congrArg ZoneCtl.state (h.zone_eq hz)

theorem State.zoneState_fault_ne (s : State) (z : Zone) (c : FaultCode) :
    (s.fault z c).zoneState z ≠ .draining := by
  rw [State.zoneState_fault]
  split <;> simp

theorem State.pressTest_idle {s : State} (h : s.active .p = false) : s.pressTest = s :=
  State.pressTest_none (by simp [State.indexReady, h])

/-! ### The press -/

theorem State.indexTimeout_spec {s u : State} (hu : u.press = { s.press with index := none })
    (hz : u.zones = s.zones) :
    let t := (u.fault .p .indexTimeout).drainTests.pressTest
    Decides (u.fault .p .indexTimeout) t ∧ t.press = { s.press with index := none } ∧
      t.zoneState .p = if s.zoneState .p = .tripped then .tripped else .faulted := by
  have hdec := decides_drainTests (u.fault .p .indexTimeout)
  have hstate : (u.fault .p .indexTimeout).drainTests.zoneState .p =
      if s.zoneState .p = .tripped then .tripped else .faulted := by
    rw [hdec.zoneState_eq (u.zoneState_fault_ne .p _), State.zoneState_fault, State.zoneState,
      State.zoneState, hz]
  have hidle : (u.fault .p .indexTimeout).drainTests.active .p = false := by
    rw [Bool.eq_false_iff]
    intro hactive
    rw [State.active_iff, hstate] at hactive
    split at hactive <;> simp at hactive
  rw [State.pressTest_idle hidle]
  exact ⟨hdec, by simp [hu], hstate⟩

/-- At the casing, the press entry and the jacket, a window that opens sets its flag alone (R67). -/
theorem State.HeadTested.opens {w : Watch} {u t : State} (h : u.HeadTested w t)
    (hw : w ≠ .stagingEntry ∧ w ≠ .outfeed) : t = u ∨ t = u.setOpened w true := by
  unfold State.HeadTested at h
  split at h
  · exact .inl h
  · split at h
    · split at h
      · exact .inl h
      · refine .inr (h.trans ?_)
        cases w with
        | stagingEntry => exact absurd rfl hw.1
        | outfeed => exact absurd rfl hw.2
        | _ => rfl
    · exact .inl h.2

/-- A new head at the jacket stop touches the records in TO_JACKET alone. -/
theorem State.newHead_jacket {s : State} {r : Nat} {b : Book} (hb : s.book? r = some b)
    (hlife : b.life = .retired) : (s.newHead .jacket).book? r = some b ∧
      (s.newHead .jacket).press.awaited = s.press.awaited ∧
      (r ∉ s.table.jacketApproach → r ∉ (s.newHead .jacket).table.jacketApproach) ∧
      (r ∈ s.table.outcomes → r ∈ (s.newHead .jacket).table.outcomes) ∧
      ((s.zones.c.state = .faulted ∨ (s.zones.c.state = .tripped ∧ s.zones.c.code ≠ none)) →
        (s.newHead .jacket).zoneState .c = s.zoneState .c) := by
  obtain ⟨gone, u, hloses, -, htested⟩ := newHead_spec s .jacket
  have hbu : u.book? r = some b := by
    have hnot : r ∉ gone := fun hmem => by
      obtain ⟨x, hx, hstate, -⟩ := hloses.lost r hmem
      have hxb : x = b := Option.some.inj (hx.symm.trans hb)
      exact live_of_headState hstate (hxb ▸ hlife)
    rw [hloses.book? r, show (s.setOpened .jacket false).book? r = some b from hb, Option.map_some,
      if_neg hnot]
  have haw : u.press.awaited = s.press.awaited := by rw [hloses.press]; rfl
  have hja : r ∉ s.table.jacketApproach → r ∉ u.table.jacketApproach := fun h hmem => by
    rw [hloses.table] at hmem
    exact h (List.mem_of_mem_filter hmem)
  have hout : r ∈ s.table.outcomes → r ∈ u.table.outcomes := fun h => by
    rw [hloses.table]
    exact List.mem_append_left _ h
  have hzone : (s.zones.c.state = .faulted ∨ (s.zones.c.state = .tripped ∧ s.zones.c.code ≠ none)) →
      u.zoneState .c = s.zoneState .c := fun h => by
    rw [State.zoneState, hloses.zones]
    exact (ZoneCtl.reports_faulted gone .missing h).1
  rcases htested.opens (by decide) with h | h <;> rw [h] <;> exact ⟨hbu, haw, hja, hout, hzone⟩

theorem Book.Decided.life {b c : Book} (h : b.Decided c) : c.life = b.life :=
  (congrArg Book.life h.fixed :)
theorem Book.Decided.position {b c : Book} (h : b.Decided c) : c.position = b.position :=
  (congrArg Book.position h.fixed :)
theorem Book.Decided.outcome {b c : Book} (h : b.Decided c) : c.outcome = b.outcome :=
  (congrArg Book.outcome h.fixed :)
theorem Book.Decided.retiredAt {b c : Book} (h : b.Decided c) : c.retiredAt = b.retiredAt :=
  (congrArg Book.retiredAt h.fixed :)
theorem Book.Decided.lifeAtRetirement {b c : Book} (h : b.Decided c) :
    c.lifeAtRetirement = b.lifeAtRetirement := (congrArg Book.lifeAtRetirement h.fixed :)

/-- The awaited unload lost, before the units decide (R128). -/
def State.graceEnded (s : State) (r : Nat) : State :=
  { (s.retire r .lost).fault .c .missing with
    press := { ((s.retire r .lost).fault .c .missing).press with awaited := none } }

theorem State.graceEnded_spec {s : State} {r : Nat} {b : Book} (hb : s.book? r = some b)
    (hlife : b.life = .toJacket) :
    (s.graceEnded r).book? r = some (b.asRetired .lost s.clock) ∧
      (s.graceEnded r).press.awaited = none ∧ r ∉ (s.graceEnded r).table.jacketApproach ∧
      r ∈ (s.graceEnded r).table.outcomes ∧
      ((s.graceEnded r).zones.c.state = .faulted ∨
        ((s.graceEnded r).zones.c.state = .tripped ∧ (s.graceEnded r).zones.c.code ≠ none)) ∧
      (s.graceEnded r).zoneState .c = if s.zoneState .c = .tripped then .tripped else .faulted := by
  have hgone : Gone .lost [r] s (s.retire r .lost) := gone_retire hb (by rw [hlife]; rfl)
  have htable : (s.graceEnded r).table = (s.retire r .lost).table := State.fault_table _ _ _
  have hzone : (s.graceEnded r).zones.c = ((s.retire r .lost).zones.c).reported .missing :=
    ((s.retire r .lost).zones_fault_get .c .c .missing).trans (if_pos rfl)
  have hkept : (s.retire r .lost).zones.c = s.zones.c :=
    (congrArg (fun t : State => t.zones.c) hgone.frame :)
  refine ⟨?_, rfl, ?_, ?_, ?_, ?_⟩
  · rw [State.book?, htable]
    exact (hgone.book? r).trans (by rw [hb]; simp)
  · rw [htable, hgone.table]
    simp
  · rw [htable, hgone.table]
    simp
  · rw [hzone]
    exact ZoneCtl.reported_holds _ _
  · show (s.graceEnded r).zones.c.state = _
    rw [hzone, ZoneCtl.reported_state, hkept]
    rfl

theorem State.onUnloadGraceExpiry_spec {s : State} {r : Nat} {timer : Timer} {b : Book}
    (haw : s.press.awaited = some (r, timer)) (hb : s.book? r = some b) (hlife : b.life = .toJacket) :
    ∃ c, s.onUnloadGraceExpiry.press.awaited = none ∧ s.onUnloadGraceExpiry.book? r = some c ∧
      c.life = .retired ∧ c.outcome = some .lost ∧ c.lifeAtRetirement = some .toJacket ∧
      c.retiredAt = some s.clock ∧ r ∉ s.onUnloadGraceExpiry.table.jacketApproach ∧
      r ∈ s.onUnloadGraceExpiry.table.outcomes ∧
      s.onUnloadGraceExpiry.zoneState .c = if s.zoneState .c = .tripped then .tripped else .faulted := by
  obtain ⟨hbook, hnone, happroach, hout, hholds, hzone⟩ := State.graceEnded_spec hb hlife
  obtain ⟨hbook', hnone', happroach', hout', hzone'⟩ :=
    State.newHead_jacket hbook (show (b.asRetired .lost s.clock).life = .retired from rfl)
  let v : State := if s.table.jacketApproach.head? = some r then (s.graceEnded r).newHead .jacket
    else s.graceEnded r
  have hv : v.book? r = some (b.asRetired .lost s.clock) ∧ v.press.awaited = none ∧
      r ∉ v.table.jacketApproach ∧ r ∈ v.table.outcomes ∧
      v.zoneState .c = if s.zoneState .c = .tripped then .tripped else .faulted := by
    by_cases hhead : s.table.jacketApproach.head? = some r
    · rw [show v = _ from if_pos hhead]
      exact ⟨hbook', hnone'.trans hnone, happroach' happroach, hout' hout, (hzone' hholds).trans hzone⟩
    · rw [show v = _ from if_neg hhead]
      exact ⟨hbook, hnone, happroach, hout, hzone⟩
  have heq : s.onUnloadGraceExpiry = v.follow.pressTest := by
    simp only [State.onUnloadGraceExpiry, haw, decide_eq_true_iff]
    rfl
  have hdec : Decides v v.follow.pressTest := (decides_pressTest _).after (decides_follow v)
  obtain ⟨hread, haw', hja, hon, hz⟩ := hv
  obtain ⟨c, hc, hdecided⟩ := hdec.book?_eq hread
  rw [heq]
  refine ⟨c, ?_, hc, hdecided.life, hdecided.outcome, ?_, hdecided.retiredAt, ?_, ?_, ?_⟩
  · exact hdec.awaited.trans haw'
  · rw [hdecided.lifeAtRetirement]
    exact congrArg some hlife
  · rw [hdec.jacketApproach]
    exact hja
  · rw [hdec.outcomes]
    exact hon
  · have hne : v.zoneState .c ≠ .draining := by rw [hz]; split <;> simp
    rw [hdec.zoneState_eq hne, hz]

/-! ### The delivery unit -/

/-- The release test of a DONE stop. -/
theorem State.jacketReleaseTest_of_done {s : State} {r : Nat} (hstop : s.dlv.stop = .done r) :
    s.jacketReleaseTest.dlv.stop = if s.active .c ∧ s.io.armed ∧ s.table.delivery.length < 6 then
      .releasing r ⟨s.clock, s.cfg.releaseTimeout⟩ else .done r := by
  simp only [State.jacketReleaseTest, hstop, Bool.and_eq_true, decide_eq_true_iff, and_assoc]
  split
  · rfl
  · exact hstop

theorem State.stop_stopZoneTimers {s : State} (h : s.dlv.stop.stopTimer = s.dlv.stop) (z : Zone) :
    (s.stopZoneTimers z).dlv.stop = s.dlv.stop := by
  unfold State.stopZoneTimers
  split
  · split <;> rfl
  · split <;> [rfl; exact h]
  all_goals rfl

/-- Settles O52: each expiry's effect at the clock it is brought to. -/
theorem pressAndDeliveryTimeouts : Obligations.PressAndDeliveryTimeouts := by
  refine ⟨fun s => ⟨fun op hop => ?_, fun r timer b haw hb hlife => ?_⟩, fun s timer r => ?_⟩
  · obtain ⟨hdec, hpress, hzone⟩ := State.indexTimeout_spec (s := s)
      (u := { s.reach op.timer with press := { s.press with index := none } }) rfl
      (s.reach_zones op.timer)
    refine ⟨_, ?_, hdec, hpress, hzone⟩
    show Host.Outcome.next (s.expire (s.press.index.map (·.timer)) State.onIndexTimeout) = _
    rw [hop]
    show Host.Outcome.next (((s.reach op.timer).tripPress.fault .p .indexTimeout).drainTests.pressTest) = _
    rw [State.tripPress, State.reach_press]
  · obtain ⟨c, hnone, hc, hretired, hout, hfrom, hat, hja, hon, hz⟩ :=
      State.onUnloadGraceExpiry_spec (s := s.reach timer) (by rw [s.reach_press]; exact haw)
        ((s.reach_book? timer r).trans hb) hlife
    refine ⟨_, c, ?_, hnone, hc, hretired, hout, hfrom, hat, hja, hon, ?_⟩
    · show Host.Outcome.next (s.expire (s.press.awaited.map (·.2)) State.onUnloadGraceExpiry) = _
      rw [haw]
      rfl
    · rw [hz, State.zoneState, s.reach_zones]
      rfl
  · intro now result
    have hexpire {i : Instr} {t : Option Timer} {f : State → State}
        (hexec : exec i s = .next (s.expire t f)) (ht : t = some timer) : exec i s = .next (f now) := by
      rw [hexec, ht]; rfl
    have hdlv : now.dlv = s.dlv := s.reach_dlv timer
    refine ⟨fun h => ?_, fun h => ?_, fun h => ?_, fun h => ?_⟩
    · refine (hexpire (f := State.onJacketEjectTimeout) rfl (by rw [State.jacketEjectTimer, h])).trans ?_
      simp only [State.onJacketEjectTimeout, hdlv, h]
    · refine (hexpire (f := State.onJacketCycleTimeout) rfl (by rw [State.jacketCycleTimer, h])).trans ?_
      simp only [State.onJacketCycleTimeout, hdlv, h]
      rfl
    · refine ⟨_, hexpire (f := State.onJacketReleaseTimeout) rfl
        (by rw [State.jacketReleaseTimer, h]), ?_⟩
      have heq : now.onJacketReleaseTimeout =
          ((now.fault .c .jacketJam).setStop (.done r)).bpTest .c := by
        simp only [State.onJacketReleaseTimeout, hdlv, h]
      have hrec : (now.fault .c .jacketJam).dlv.stop.record? = some r := by
        rw [State.stop_fault, hdlv, h]; rfl
      rw [heq]
      refine ⟨(decides_bpTest _ .c).after (decides_stop _ _ _ (by rw [hrec]; rfl)), ?_⟩
      show { (now.fault .c .jacketJam).dlv with stop := .done r } = _
      have hrest := congrArg (fun t : State => { t.dlv with stop := JacketStop.done r })
        (now.fault_frame .c .jacketJam)
      exact (hrest :).trans (by rw [hdlv])
    · refine ⟨_, hexpire (f := State.onJacketWaitExpiry) rfl (by rw [State.jacketWaitTimer, h]), ?_⟩
      have heq : now.onJacketWaitExpiry =
          ((now.setJacketResult r .unjacketed).setStop (.done r)).jacketReleaseTest := by
        simp only [State.onJacketWaitExpiry, hdlv, h]
      have hrec : (now.setJacketResult r .unjacketed).dlv.stop.record? = some r := by
        show now.dlv.stop.record? = _
        rw [hdlv, h]; rfl
      rw [heq]
      refine ⟨(decides_jacketReleaseTest _).after (decides_stop _ _ _ hrec.symm),
        State.jacketReleaseTest_table _, ?_, ?_⟩
      · rw [State.jacketReleaseTest_jackets]
        exact congrArg (·.jackets) hdlv
      · rw [State.jacketReleaseTest_of_done rfl]
        show (if now.active .c = true ∧ now.io.armed = true ∧ now.table.delivery.length < 6 then
          JacketStop.releasing r ⟨now.clock, now.cfg.releaseTimeout⟩ else _) = _
        rw [active_of_zones (s.reach_zones timer), s.reach_io, s.reach_table, s.reach_cfg]

end Sys2Proof.Machine
end

section
/-! SUPPORT. The cycles of the casing machine and the jacket machine end (R109, R140). -/
namespace Sys2Proof.Machine

/-! ### A handshake line that becomes active -/

theorem State.risingInput_input {s : State} {n : Nat} (edge : State → State)
    (h : (s.point n).mode = .input) : s.risingInput n edge = edge (s.blocked n) := if_pos h

/-- An edge that its owner ignores leaves the level alone, whatever the mode of its point. -/
theorem State.risingInput_ignored {s : State} {n : Nat} {edge : State → State}
    (h : edge (s.blocked n) = s.blocked n) : s.risingInput n edge = s.blocked n := by
  unfold State.risingInput
  split
  · exact h
  · rfl

/-! ### The casing side -/

/-- The release test of a CASED casing section. -/
theorem State.casingReleaseTest_of_cased {s : State} {r : Nat} (hcasing : s.stg.casing = .cased r) :
    s.casingReleaseTest.stg.casing =
      if s.active .b ∧ s.io.armed ∧ s.table.pressApproach.length < 4 then
        .releasing r ⟨s.clock, s.cfg.releaseTimeout⟩ else .cased r := by
  simp only [State.casingReleaseTest, hcasing, Bool.and_eq_true, decide_eq_true_iff, and_assoc]
  split
  · rfl
  · exact hcasing

/-- The casing cycle in flight has ended, and the release is tested. -/
theorem State.casingCycleEnd_spec {u v : State} {r : Nat} {timer : Timer}
    (hu : u.stg.casing = .inCycle r timer) (hdec : Decides u v) (hactive : v.active .b = u.active .b)
    (happroach : v.table.pressApproach = u.table.pressApproach)
    (hrec : v.stg.casing = u.stg.casing) :
    let t := ((v.setCasing (.cased r)).casingReleaseTest).drainTests
    Decides u t ∧ t.table = v.table ∧
      t.stg.casing = (if u.active .b ∧ u.io.armed ∧ u.table.pressApproach.length < 4 then
        .releasing r ⟨u.clock, u.cfg.releaseTimeout⟩ else .cased r) := by
  refine ⟨(decides_drainTests _).after ((decides_casingReleaseTest _).after
    ((decides_casing v _ v.stg.cases (by rw [hrec, hu]; rfl)).after hdec)), ?_, ?_⟩
  · rw [State.drainTests_table, State.casingReleaseTest_table]
    rfl
  · rw [State.drainTests_stg_casing, State.casingReleaseTest_of_cased rfl]
    show (if v.active .b = true ∧ v.io.armed = true ∧ v.table.pressApproach.length < 4 then
      CasingSide.releasing r ⟨v.clock, v.cfg.releaseTimeout⟩ else _) = _
    rw [hactive, happroach, hdec.io, hdec.clock, hdec.cfg]

/-! ### The jacket stop -/

/-- The jacket cycle in flight has ended with a result, and the release is tested. -/
theorem State.jacketCycleEnd_spec {u : State} {r : Nat} {timer : Timer} {b : Book} (res : JacketResult)
    (hu : u.dlv.stop = .inCycle r timer) (hb : u.book? r = some b) :
    let t := ((u.setJacketResult r res).setStop (.done r)).jacketReleaseTest
    Decides u t ∧ t.book? r = some { b with jacketResult := some res } ∧
      t.dlv.stop = (if u.active .c ∧ u.io.armed ∧ u.table.delivery.length < 6 then
        .releasing r ⟨u.clock, u.cfg.releaseTimeout⟩ else .done r) := by
  refine ⟨(decides_jacketReleaseTest _).after ((decides_stop _ _ _ ?_).after
    (decides_setJacketResult u r res)), ?_, State.jacketReleaseTest_of_done rfl⟩
  · show some r = u.dlv.stop.record?
    rw [hu]; rfl
  · rw [State.book?, State.jacketReleaseTest_table]
    exact (State.book?_updBook_self u r (fun d => { d with jacketResult := some res })
      (fun _ => rfl)).trans (by rw [hb]; rfl)

/-- Settles O44: each handshake's branch for a cycle in flight, and for none. -/
theorem cyclesEnd : Obligations.CyclesEnd := by
  refine fun s r timer b => ⟨fun hm hcasing => ?_, fun hm hcasing hb hlive => ?_, fun hnone => ?_,
    fun hm hstop hb => ?_, fun hm hstop hb => ?_, fun hnone => ?_⟩
  · have heq : (s.blocked 20).onCasingDone =
        ((s.blocked 20).setCasing (.cased r)).casingReleaseTest.drainTests := by
      simp only [State.onCasingDone, show (s.blocked 20).stg.casing = _ from hcasing]
    obtain ⟨hdec, htable, hc⟩ := State.casingCycleEnd_spec (u := s.blocked 20) hcasing (.refl _) rfl rfl rfl
    refine ⟨_, congrArg Host.Outcome.next ((State.risingInput_input _ hm).trans heq), hdec, ?_, hc⟩
    rw [htable]; rfl
  · have heq : (s.blocked 21).onCasingFault =
        (((s.blocked 21).setReason r .casingFault).setCasing (.cased r)).casingReleaseTest.drainTests := by
      simp only [State.onCasingFault, show (s.blocked 21).stg.casing = _ from hcasing]
    obtain ⟨hdec, htable, hc⟩ := State.casingCycleEnd_spec (u := s.blocked 21) hcasing
      (decides_setReason _ r .casingFault) rfl rfl rfl
    have hread := book?_setReason (s := s.blocked 21) .casingFault hb ((b.live_iff).2 hlive)
    refine ⟨_, { b with reason := some (b.reason.getD .casingFault) },
      congrArg Host.Outcome.next ((State.risingInput_input _ hm).trans heq), hdec, ?_, rfl, hc⟩
    rw [State.book?, htable]
    exact hread
  · constructor
    · refine congrArg Host.Outcome.next (State.risingInput_ignored ?_)
      unfold State.onCasingDone
      cases hc : (s.blocked 20).stg.casing with
      | inCycle q u => exact absurd hc (hnone q u)
      | _ => rfl
    · refine congrArg Host.Outcome.next (State.risingInput_ignored ?_)
      unfold State.onCasingFault
      cases hc : (s.blocked 21).stg.casing with
      | inCycle q u => exact absurd hc (hnone q u)
      | _ => rfl
  · have heq : (s.blocked 25).onJacketDone =
        (((s.blocked 25).setJacketResult r .jacketed).setStop (.done r)).jacketReleaseTest := by
      simp only [State.onJacketDone, show (s.blocked 25).dlv.stop = _ from hstop]
    obtain ⟨hdec, hread, hstop'⟩ := State.jacketCycleEnd_spec (u := s.blocked 25) .jacketed hstop hb
    exact ⟨_, _, congrArg Host.Outcome.next ((State.risingInput_input _ hm).trans heq), hdec, hread,
      rfl, rfl, hstop'⟩
  · have heq : (s.blocked 26).onJacketFault =
        (((s.blocked 26).setJacketResult r .unjacketed).setStop (.done r)).jacketReleaseTest := by
      simp only [State.onJacketFault, show (s.blocked 26).dlv.stop = _ from hstop]
    obtain ⟨hdec, hread, hstop'⟩ := State.jacketCycleEnd_spec (u := s.blocked 26) .unjacketed hstop hb
    exact ⟨_, _, congrArg Host.Outcome.next ((State.risingInput_input _ hm).trans heq), hdec, hread,
      rfl, rfl, hstop'⟩
  · constructor
    · refine congrArg Host.Outcome.next (State.risingInput_ignored ?_)
      unfold State.onJacketDone
      cases hc : (s.blocked 25).dlv.stop with
      | inCycle q u => exact absurd hc (hnone q u)
      | _ => rfl
    · refine congrArg Host.Outcome.next (State.risingInput_ignored ?_)
      unfold State.onJacketFault
      cases hc : (s.blocked 26).dlv.stop with
      | inCycle q u => exact absurd hc (hnone q u)
      | _ => rfl

end Sys2Proof.Machine
end

section
/-! SUPPORT. Feeds and ejections of the case queue and the jacket queue (R8, R94, R106, R107, R133,
R139). -/
namespace Sys2Proof.Machine

/-- The stop decision takes the head jacket for a cycle, and otherwise leaves the queue. -/
theorem State.jacketDecide_jackets (s : State) : s.jacketDecide.dlv.jackets = s.dlv.jackets ∨
    (∃ r timer, s.jacketDecide.dlv.stop = .inCycle r timer) ∧
      s.jacketDecide.dlv.jackets = s.dlv.jackets.tail := by
  unfold State.jacketDecide
  split
  · next r timer _ =>
    split
    · split
      · next x _ =>
        unfold State.decideStop
        split
        · left
          unfold State.releaseUnjacketed
          rw [State.jacketReleaseTest_jackets]
          split <;> rfl
        · split
          · exact .inl rfl
          · next j rest hcons =>
            split
            · exact .inr ⟨⟨_, _, rfl⟩, by rw [hcons]; rfl⟩
            · exact .inl rfl
            · exact .inl rfl
            · exact .inl rfl
            · left
              unfold State.releaseUnjacketed
              rw [State.jacketReleaseTest_jackets]
              split <;> rfl
      · exact .inl rfl
    · exact .inl rfl
  all_goals exact .inl rfl

theorem State.updOrder_congr {s : State} {n : Nat} {f g : Order → Order}
    (h : ∀ o, o.tmpl.order = n → f o = g o) : s.updOrder n f = s.updOrder n g := by
  unfold State.updOrder
  congr 1
  refine List.map_congr_left fun o _ => ?_
  split
  · next hn => exact h o (eq_of_beq hn)
  · rfl

/-- An ejection counted against the order of its item. -/
theorem State.countCaseEjection_eq (s : State) (i : Identity) : s.countCaseEjection i = match i with
    | .ident x => s.updOrder x.order (fun o => { o with counters := { o.counters with
        casesEjected := countUp o.tmpl.order 7 s.clock o.counters.casesEjected } })
    | .unreadable | .conflict => s := by
  cases i with
  | ident x => exact State.updOrder_congr fun o ho => by rw [ho]
  | unreadable | conflict => rfl

theorem State.countJacketEjection_eq (s : State) (i : Identity) : s.countJacketEjection i = match i with
    | .ident x => s.updOrder x.order (fun o => { o with counters := { o.counters with
        jacketsEjected := countUp o.tmpl.order 8 s.clock o.counters.jacketsEjected } })
    | .unreadable | .conflict => s := by
  cases i with
  | ident x => exact State.updOrder_congr fun o ho => by rw [ho]
  | unreadable | conflict => rfl

theorem State.removeEjectedCase_eq {u : State} {e : CaseEntry} {rest : List CaseEntry}
    (h : u.stg.cases = e :: rest) : u.removeEjectedCase =
      { u.countCaseEjection e.identity with stg := { u.stg with cases := rest } } := by
  simp only [State.removeEjectedCase, h]
  cases e.identity <;> rfl

theorem State.removeEjectedJacket_eq {u : State} {e : Identity} {rest : List Identity}
    (h : u.dlv.jackets = e :: rest) : u.removeEjectedJacket =
      { u.countJacketEjection e with dlv := { u.dlv with jackets := rest } } := by
  simp only [State.removeEjectedJacket, h]
  cases e <;> rfl

/-- The head case has been ejected, and the staging side is what its confirmation leaves. -/
theorem State.caseEjected_spec (u : State) (i : Identity) (rest : List CaseEntry) (side : StagingSide)
    (overdue : Bool) :
    let v : State := { u.countCaseEjection i with
      stg := { u.stg with cases := rest, side := side, overdue := overdue } }
    Decides { u.countCaseEjection i with stg := { u.stg with overdue := overdue } } v.stagingDecide ∧
      v.stagingDecide.stg.cases.map (·.identity) = rest.map (·.identity) :=
  ⟨(decides_stagingDecide _).after (decides_staging _ side rest), State.stagingDecide_identities _⟩

/-- The head jacket has been ejected, and the stop is what its confirmation leaves. -/
theorem State.jacketEjected_spec (u : State) (i : Identity) (rest : List Identity) {stop : JacketStop}
    (overdue : Bool) (hrec : stop.record? = u.dlv.stop.record?) :
    let v : State := { u.countJacketEjection i with
      dlv := { u.dlv with jackets := rest, stop := stop, overdue := overdue } }
    Decides { u.countJacketEjection i with dlv := { u.dlv with overdue := overdue } } v.jacketDecide ∧
      (v.jacketDecide.dlv.jackets = rest ∨ (∃ q t, v.jacketDecide.dlv.stop = .inCycle q t) ∧
        v.jacketDecide.dlv.jackets = rest.tail) :=
  ⟨(decides_jacketDecide _).after (decides_stop _ stop rest hrec), State.jacketDecide_jackets _⟩

/-- What the feeds do, from the state in which the line has moved. -/
theorem feeds (s : State) :
    let identity (h : HeldScan) : Identity := match h with
      | .holding i => .ident i
      | .empty => .unreadable
      | .conflict => .conflict
    let kase : State := { s.blocked 18 with readers := { s.readers with heldCase := .empty } }
    let jacket : State := { s.blocked 23 with readers := { s.readers with heldJacket := .empty } }
    ((s.point 18).mode = .input → s.stg.cases.length < 6 →
      ∃ t : State, exec .caseFed s = .next t ∧ Decides kase t ∧ t.stg.cases.map (·.identity) =
        s.stg.cases.map (·.identity) ++ [identity s.readers.heldCase]) ∧
    ((s.point 18).mode = .input → 6 ≤ s.stg.cases.length →
      exec .caseFed s = .next (kase.fault .b .caseOverfeed)) ∧
    ((s.point 23).mode = .input → s.dlv.jackets.length < 6 →
      ∃ t : State, exec .jacketFed s = .next t ∧ Decides jacket t ∧
        (t.dlv.jackets = s.dlv.jackets ++ [identity s.readers.heldJacket] ∨
          (∃ r timer, t.dlv.stop = .inCycle r timer) ∧
            t.dlv.jackets = (s.dlv.jackets ++ [identity s.readers.heldJacket]).tail)) ∧
    ((s.point 23).mode = .input → 6 ≤ s.dlv.jackets.length →
      exec .jacketFed s = .next (jacket.fault .c .jacketOverfeed)) := by
  intro identity kase jacket
  have hidentity : identity = heldIdentity := by
    funext h
    cases h <;> rfl
  refine ⟨fun hm hlt => ?_, fun hm hge => ?_, fun hm hlt => ?_, fun hm hge => ?_⟩
  · let fed : State := { kase with stg := { s.stg with
      cases := s.stg.cases ++ [⟨heldIdentity s.readers.heldCase, false⟩] } }
    have heq : (s.blocked 18).onCaseFed = fed.stagingDecide := if_pos hlt
    refine ⟨_, congrArg Host.Outcome.next ((State.risingInput_input _ hm).trans heq),
      (decides_stagingDecide fed).after (decides_staging kase _ _), ?_⟩
    rw [State.stagingDecide_identities, hidentity]
    exact List.map_append
  · exact congrArg Host.Outcome.next ((State.risingInput_input _ hm).trans
      (if_neg (Nat.not_lt.2 hge)))
  · let fed : State := { jacket with dlv := { s.dlv with
      jackets := s.dlv.jackets ++ [heldIdentity s.readers.heldJacket] } }
    have heq : (s.blocked 23).onJacketFed = fed.jacketDecide := if_pos hlt
    refine ⟨_, congrArg Host.Outcome.next ((State.risingInput_input _ hm).trans heq),
      (decides_jacketDecide fed).after (decides_stop jacket _ _ rfl), ?_⟩
    rw [hidentity]
    exact fed.jacketDecide_jackets
  · exact congrArg Host.Outcome.next ((State.risingInput_input _ hm).trans
      (if_neg (Nat.not_lt.2 hge)))

theorem State.onJacketEjected_overdue {u : State} (hstop : ∀ q t, u.dlv.stop ≠ .ejectInFlight q t) :
    u.onJacketEjected =
      if u.dlv.overdue then u.removeEjectedJacket.clearJacketOverdue.jacketDecide else u := by
  unfold State.onJacketEjected
  cases h : u.dlv.stop with
  | ejectInFlight q t => exact absurd h (hstop q t)
  | _ => rfl

/-- What an ejection's confirmation does, from the state in which the line has moved. -/
theorem State.onCaseEjected_inFlight {u : State} {e : CaseEntry} {rest : List CaseEntry} {timer : Timer}
    (hcases : u.stg.cases = e :: rest) (hside : u.stg.side = .ejectInFlight timer) :
    Decides (u.countCaseEjection e.identity) u.onCaseEjected ∧
      u.onCaseEjected.stg.cases.map (·.identity) = rest.map (·.identity) := by
  obtain ⟨hdec, hids⟩ := u.caseEjected_spec e.identity rest (.idle .none) u.stg.overdue
  have hself : { u.countCaseEjection e.identity with
      stg := { u.stg with overdue := u.stg.overdue } } = u.countCaseEjection e.identity := by
    cases e.identity <;> rfl
  rw [hself] at hdec
  have hon : u.onCaseEjected =
      (u.removeEjectedCase.setSide (.idle .none)).stagingDecide.drainTests := if_pos (by rw [hside]; rfl)
  rw [hon, State.removeEjectedCase_eq hcases]
  refine ⟨(decides_drainTests _).after hdec, ?_⟩
  rw [State.drainTests_stg_cases]
  exact hids

theorem State.onCaseEjected_overdue {u : State} {e : CaseEntry} {rest : List CaseEntry}
    (hcases : u.stg.cases = e :: rest) (hside : u.stg.side.ejecting = false)
    (hover : u.stg.overdue = true) :
    Decides { u.countCaseEjection e.identity with stg := { u.stg with overdue := false } }
      u.onCaseEjected ∧ u.onCaseEjected.stg.cases.map (·.identity) = rest.map (·.identity) := by
  have hon : u.onCaseEjected = u.removeEjectedCase.clearOverdue.stagingDecide :=
    (if_neg (by simp [hside])).trans (if_pos hover)
  rw [hon, State.removeEjectedCase_eq hcases]
  exact u.caseEjected_spec e.identity rest u.stg.side false

theorem State.stop_drainTests {s : State} (h : s.dlv.stop.stopTimer = s.dlv.stop) :
    s.drainTests.dlv.stop = s.dlv.stop := by
  have htest {u : State} (hu : u.dlv.stop = s.dlv.stop) (z : Zone) :
      (u.drainTest z).dlv.stop = s.dlv.stop := by
    unfold State.drainTest
    split
    · exact (State.stop_stopZoneTimers (s := { u with
        zones := u.zones.set z { u.zones.get z with state := .stopped } })
        (by show u.dlv.stop.stopTimer = u.dlv.stop; rw [hu, h]) z).trans hu
    · exact hu
  exact htest (htest (htest (htest rfl .a) .b) .p) .c

theorem State.onJacketEjected_inFlight {u : State} {e : Identity} {rest : List Identity} {r : Nat}
    {timer : Timer} (hjackets : u.dlv.jackets = e :: rest) (hstop : u.dlv.stop = .ejectInFlight r timer) :
    Decides (u.countJacketEjection e) u.onJacketEjected ∧
      (u.onJacketEjected.dlv.jackets = rest ∨ (∃ q t, u.onJacketEjected.dlv.stop = .inCycle q t) ∧
        u.onJacketEjected.dlv.jackets = rest.tail) := by
  obtain ⟨hdec, hids⟩ := u.jacketEjected_spec e rest (stop := .waiting r none) u.dlv.overdue
    (by rw [hstop]; rfl)
  have hself : { u.countJacketEjection e with
      dlv := { u.dlv with overdue := u.dlv.overdue } } = u.countJacketEjection e := by
    cases e <;> rfl
  rw [hself] at hdec
  have hon : u.onJacketEjected =
      (u.removeEjectedJacket.setStop (.waiting r none)).jacketDecide.drainTests := by
    simp only [State.onJacketEjected, hstop]
  rw [hon, State.removeEjectedJacket_eq hjackets]
  refine ⟨(decides_drainTests _).after hdec, ?_⟩
  rw [State.drainTests_dlv_jackets]
  refine hids.imp id fun ⟨⟨q, t, hcycle⟩, hq⟩ => ⟨⟨q, t, ?_⟩, hq⟩
  exact (State.stop_drainTests ((congrArg JacketStop.stopTimer hcycle).trans hcycle.symm)).trans hcycle

theorem State.onJacketEjected_late {u : State} {e : Identity} {rest : List Identity}
    (hjackets : u.dlv.jackets = e :: rest) (hstop : ∀ q t, u.dlv.stop ≠ .ejectInFlight q t)
    (hover : u.dlv.overdue = true) :
    Decides { u.countJacketEjection e with dlv := { u.dlv with overdue := false } }
      u.onJacketEjected ∧
      (u.onJacketEjected.dlv.jackets = rest ∨ (∃ q t, u.onJacketEjected.dlv.stop = .inCycle q t) ∧
        u.onJacketEjected.dlv.jackets = rest.tail) := by
  rw [State.onJacketEjected_overdue hstop, if_pos hover, State.removeEjectedJacket_eq hjackets]
  exact u.jacketEjected_spec e rest false rfl

/-- Settles O43: the feeds, and the ejections of a case and of a jacket. -/
theorem feedsAndEjections : Obligations.FeedsAndEjections := by
  refine ⟨feeds, fun s timer r => ?_⟩
  intro counted caseUp jacketUp
  have hcase (i : Identity) : counted (s.blocked 19) i caseUp = (s.blocked 19).countCaseEjection i :=
    (by cases i <;> rfl : _ = _).trans (State.countCaseEjection_eq _ i).symm
  have hjacket (i : Identity) :
      counted (s.blocked 24) i jacketUp = (s.blocked 24).countJacketEjection i :=
    (by cases i <;> rfl : _ = _).trans (State.countJacketEjection_eq _ i).symm
  have hrises {n : Nat} {i : Instr} {f : State → State} (hexec : exec i s = .next (s.risingInput n f))
      (hm : (s.point n).mode = .input) : exec i s = .next (f (s.blocked n)) :=
    hexec.trans (congrArg _ (State.risingInput_input f hm))
  refine ⟨fun hm e rest hcases hside => ?_, fun hm e rest hcases hside hover => ?_,
    fun hside hover => ?_, fun hm e rest hjackets hstop => ?_,
    fun hm e rest hjackets hstop hover => ?_, fun hstop hover => ?_⟩
  · rw [hcase]
    exact ⟨_, hrises rfl hm, State.onCaseEjected_inFlight hcases hside⟩
  · rw [hcase]
    exact ⟨_, hrises rfl hm, State.onCaseEjected_overdue hcases hside hover⟩
  · refine congrArg Host.Outcome.next (State.risingInput_ignored ?_)
    exact (if_neg (by simp [show (s.blocked 19).stg.side.ejecting = false from hside])).trans
      (if_neg (by simp [show (s.blocked 19).stg.overdue = false from hover]))
  · rw [hjacket]
    exact ⟨_, hrises rfl hm, State.onJacketEjected_inFlight hjackets hstop⟩
  · rw [hjacket]
    exact ⟨_, hrises rfl hm, State.onJacketEjected_late hjackets hstop hover⟩
  · refine congrArg Host.Outcome.next (State.risingInput_ignored ?_)
    rw [State.onJacketEjected_overdue (u := s.blocked 24) hstop]
    exact if_neg (by simp [show (s.blocked 24).dlv.overdue = false from hover])

end Sys2Proof.Machine
end

section
/-! SUPPORT. The index command and the index period (R119, R121 to R123). -/
namespace Sys2Proof.Machine

theorem State.pocket?_iff {s : State} : (∃ p r, s.pocket? p = some r) ↔
    s.press.pockets.any Option.isSome = true := by
  unfold State.pocket?
  rw [List.any_eq_true]
  constructor
  · rintro ⟨p, r, h⟩
    obtain ⟨o, ho, hr⟩ := Option.join_eq_some_iff.1 h |> fun h => (⟨some r, h, rfl⟩ :
      ∃ o, s.press.pockets[p]? = some o ∧ o = some r)
    exact ⟨o, List.mem_of_getElem? ho, by rw [hr]; rfl⟩
  · rintro ⟨o, ho, hsome⟩
    obtain ⟨r, rfl⟩ := Option.isSome_iff_exists.1 hsome
    obtain ⟨p, hp⟩ := List.mem_iff_getElem?.1 ho
    exact ⟨p, r, by rw [hp]; rfl⟩

theorem State.indexReady_iff {s : State} : s.indexReady = true ↔
    s.press.index = none ∧ s.press.awaited = none ∧ s.active .p = true ∧ s.io.armed = true ∧
      ((∃ p r, s.pocket? p = some r) ∨ s.press.queue ≠ []) := by
  rw [State.pocket?_iff, State.indexReady]
  simp [and_assoc]

theorem Book.satisfied_iff {b : Book} {now : Clock} : b.satisfied now = true ↔
    ∃ d k, b.press = some d ∧ b.tmpl = some k ∧ k.dwell ≤ elapsed now d.loadTime := by
  unfold Book.satisfied
  cases hp : b.press <;> cases hk : b.tmpl <;> simp

/-- The unload that an index command decides (R122). -/
theorem State.unloadDecision_iff {s : State} {p r : Nat} : s.unloadDecision = some (p, r) ↔
    p = s.unloadPocket ∧ s.pocket? p = some r ∧
      ∃ b d k, s.book? r = some b ∧ b.press = some d ∧ b.tmpl = some k ∧
        k.dwell ≤ elapsed s.clock d.loadTime ∧ s.zoneState .c = .running ∧
        (s.belt .c).backPressure = false ∧ s.table.jacketApproach.length < 6 := by
  unfold State.unloadDecision
  cases hpocket : s.pocket? s.unloadPocket with
  | none =>
    simp only [reduceCtorEq, false_iff, not_and]
    rintro rfl h
    rw [hpocket] at h
    cases h
  | some q =>
    dsimp only
    cases hb : s.book? q with
    | none =>
      simp only [reduceCtorEq, false_iff]
      rintro ⟨rfl, h, b, d, k, hbook, -⟩
      rw [hpocket] at h
      cases h
      rw [hb] at hbook
      cases hbook
    | some b =>
      dsimp only
      constructor
      · intro h
        split at h
        · next hcond =>
          simp only [Bool.and_eq_true, decide_eq_true_iff, Bool.not_eq_true'] at hcond
          obtain ⟨⟨⟨hsat, hz⟩, hbp⟩, hlen⟩ := hcond
          obtain ⟨d, k, hd, hk, hdwell⟩ := Book.satisfied_iff.1 hsat
          cases h
          exact ⟨rfl, hpocket, b, d, k, hb, hd, hk, hdwell, hz, hbp, hlen⟩
        · cases h
      · rintro ⟨rfl, h, c, d, k, hc, hd, hk, hdwell, hz, hbp, hlen⟩
        rw [hpocket] at h
        cases h
        rw [hb] at hc
        cases hc
        exact if_pos (by simp [Book.satisfied_iff.2 ⟨d, k, hd, hk, hdwell⟩, hz, hbp, hlen])

/-- The load that an index command decides (R123). -/
theorem State.loadDecision_iff {s : State} {p r : Nat} : s.loadDecision = some (p, r) ↔
    p = s.press.rotation ∧ s.pocket? p = none ∧ s.press.queue.head? = some r ∧
      s.zoneState .p = .running := by
  unfold State.loadDecision
  cases hpocket : s.pocket? s.press.rotation with
  | some q =>
    simp only [reduceCtorEq, false_iff, not_and]
    rintro rfl h
    rw [hpocket] at h
    cases h
  | none =>
    cases hq : s.press.queue with
    | nil => simp
    | cons x xs =>
      dsimp only
      constructor
      · intro h
        split at h
        · next hz =>
          cases h
          exact ⟨rfl, hpocket, rfl, hz⟩
        · cases h
      · rintro ⟨rfl, -, h, hz⟩
        cases h
        exact if_pos hz

theorem State.indexDue_iff {s : State} : s.indexDue = true ↔
    ∀ t, s.press.lastCommand = some t → s.press.period ≤ elapsed s.clock t := by
  unfold State.indexDue State.indexTimer
  cases h : s.press.lastCommand <;> simp [Timer.due]

/-- The clock brought to the end of the period. -/
theorem State.exec_indexCommand (s : State) : exec .indexCommand s =
    if s.indexReady then .next ((match s.indexTimer with
      | some t => s.reach t
      | none => s).pressTest) else .next s := by
  show execIndexCommand s = _
  unfold execIndexCommand
  cases s.indexTimer <;> rfl

theorem State.indexCommand_due {s : State} (hready : s.indexReady = true)
    (hdue : s.indexDue = true) : exec .indexCommand s = .next s.commandIndex := by
  have hreach : (match s.indexTimer with
      | some t => s.reach t
      | none => s) = s := by
    unfold State.indexDue at hdue
    cases h : s.indexTimer with
    | none => rfl
    | some t =>
      rw [h] at hdue
      exact State.reach_of_due hdue
  rw [s.exec_indexCommand, if_pos hready, hreach, State.pressTest_due hready hdue]

/-! ### The index period -/

theorem State.dwellOf_eq_some {s : State} {r d : Nat} : s.dwellOf r = some d ↔
    ∃ b k, s.book? r = some b ∧ b.tmpl = some k ∧ k.dwell = d := by
  simp [State.dwellOf, Option.bind_eq_some_iff]

/-- The dwells in view (R119). -/
theorem State.mem_dwellsInView {s : State} {d : Nat} : d ∈ s.dwellsInView ↔
    (∃ r b k, r ∈ s.press.queue ∧ s.book? r = some b ∧ b.tmpl = some k ∧ k.dwell = d) ∨
    (∃ r b k, some r ∈ s.press.pockets ∧ s.book? r = some b ∧ b.tmpl = some k ∧ k.dwell = d ∧
      ∀ p, b.press = some p → elapsed s.clock p.loadTime < d) := by
  unfold State.dwellsInView
  rw [List.mem_append]
  refine or_congr ?_ ?_
  · simp only [List.mem_filterMap, State.dwellOf_eq_some]
    exact ⟨fun ⟨r, hr, b, k, h⟩ => ⟨r, b, k, hr, h⟩, fun ⟨r, b, k, hr, h⟩ => ⟨r, hr, b, k, h⟩⟩
  · simp only [List.mem_filterMap, id]
    constructor
    · rintro ⟨r, ⟨o, ho, rfl⟩, hd⟩
      split at hd
      · next b hb =>
        split at hd
        · cases hd
        · next hsat =>
          obtain ⟨k, hk, rfl⟩ := Option.map_eq_some_iff.1 hd
          refine ⟨r, b, k, ho, hb, hk, rfl, fun p hp => ?_⟩
          rw [Book.satisfied_iff] at hsat
          exact Nat.lt_of_not_le fun hle => hsat ⟨p, k, hp, hk, hle⟩
      · cases hd
    · rintro ⟨r, b, k, hr, hb, hk, rfl, hlate⟩
      refine ⟨r, ⟨_, hr, rfl⟩, ?_⟩
      rw [hb]
      dsimp only
      rw [if_neg, hk]
      · rfl
      · rw [Book.satisfied_iff]
        rintro ⟨p, k', hp, hk', hle⟩
        rw [hk] at hk'
        cases hk'
        exact Nat.not_lt.2 hle (hlate p hp)

theorem foldl_max_le {l : List Nat} {x m : Nat} : l.foldl max x ≤ m ↔ x ≤ m ∧ ∀ e ∈ l, e ≤ m := by
  induction l generalizing x with
  | nil => simp
  | cons e l ih => rw [List.foldl_cons, ih, Nat.max_le, List.forall_mem_cons, and_assoc]

/-- A list's longest, as the fold finds it. -/
theorem foldl_max_eq {l : List Nat} {d : Nat} (hd : d ∈ l) (hmax : ∀ e ∈ l, e ≤ d) :
    l.foldl max 0 = d :=
  Nat.le_antisymm (foldl_max_le.2 ⟨Nat.zero_le d, hmax⟩) ((foldl_max_le.1 (le_refl _)).2 d hd)

theorem period_clamp {lo hi q : Nat} (h : lo ≤ hi) :
    max lo (min q hi) = if q < lo then lo else if hi < q then hi else q := by
  split
  · omega
  · split <;> omega

theorem State.periodNow_eq {s : State} {d : Nat} (hd : d ∈ s.dwellsInView)
    (hmax : ∀ e ∈ s.dwellsInView, e ≤ d) : s.periodNow =
      max s.cfg.pMin (min (ceilQuot d s.cfg.reach) s.cfg.pMax) := by
  unfold State.periodNow
  cases hview : s.dwellsInView with
  | nil => rw [hview] at hd; cases hd
  | cons e l =>
    rw [hview] at hd hmax
    dsimp only
    rw [foldl_max_eq hd hmax]

/-- Settles O50: the command by `indexReady`, `loadDecision` and `unloadDecision`, and the period by
the dwells in view. -/
theorem indexCommand : Obligations.IndexCommand := by
  refine ⟨fun s => ?_, fun s hreach => ?_⟩
  · intro ready
    have hready : s.indexReady = true ↔ ready := State.indexReady_iff
    refine ⟨fun h => ?_, fun h hdue => ?_, fun h t ht hlt hperiod => ?_⟩
    · rw [s.exec_indexCommand, if_neg (fun hr => h (hready.1 hr))]
    · exact ⟨⟨s.startTimer s.cfg.indexTimeout, s.loadDecision, s.unloadDecision, s.unloadPocket⟩,
        State.indexCommand_due (hready.2 h) (State.indexDue_iff.2 hdue), rfl, rfl,
        fun p r => State.unloadDecision_iff, fun p r => State.loadDecision_iff⟩
    · have htimer : s.indexTimer = some ⟨t, s.press.period⟩ := by rw [State.indexTimer, ht]; rfl
      have hnot : Timer.due ⟨t, s.press.period⟩ s.clock = false :=
        decide_eq_false (Nat.not_le.2 hlt)
      have hnow := State.reach_of_not_due hnot
      let u : State := { s with clock := t + BitVec.ofNat 32 s.press.period }
      have hdue : u.indexDue = true := by
        rw [State.indexDue_iff]
        intro t' ht'
        cases ht.symm.trans ht'
        exact of_decide_eq_true (Timer.due_of_limit ⟨t, s.press.period⟩ hperiod)
      refine ⟨u.commandIndex, ?_, rfl, rfl, rfl, rfl⟩
      rw [s.exec_indexCommand, if_pos (hready.2 h), htimer]
      dsimp only
      rw [hnow]
      exact congrArg Host.Outcome.next
        (State.pressTest_due (s := u) (State.indexReady_iff.2 h) hdue)
  · intro inView
    have hmem (d : Nat) : d ∈ s.dwellsInView ↔ inView d := State.mem_dwellsInView
    refine ⟨fun hnone => ?_, fun d hd hmax hbounds => ?_, rfl⟩
    · have hnil : s.dwellsInView = [] :=
        List.eq_nil_iff_forall_not_mem.2 fun d hd => hnone d ((hmem d).1 hd)
      show s.periodNow = s.cfg.pMin
      rw [State.periodNow, hnil]
    · exact (State.periodNow_eq ((hmem d).2 hd) fun e he => hmax e ((hmem e).1 he)).trans
        (period_clamp hbounds)

end Sys2Proof.Machine
end

section
/-! SUPPORT. An index applied at its INDEX_DONE (R125, R126). -/
namespace Sys2Proof.Machine

/-! ### A watch point whose head, if it has one, is still before its window -/

/-- No head of the watch point is within its window or beyond it. -/
def State.Before (s : State) (w : Watch) : Prop := ∀ b t, s.target? w = some (b, t) →
  sdiff (s.belt (watchBelt w)).count t < -(s.cfg.window.get (watchBelt w) : Int)

theorem testHead_before {s : State} {w : Watch} (h : s.Before w) (fuel : Nat) :
    s.testHead fuel w = s := by
  cases fuel with
  | zero => rfl
  | succ fuel =>
    unfold State.testHead
    cases ht : s.target? w with
    | none => rfl
    | some bt =>
      obtain ⟨b, t⟩ := bt
      have hlt := h b t ht
      dsimp only
      rw [if_neg, if_neg]
      · omega
      · simp only [State.inWindow, decide_eq_true_iff]
        omega

theorem newHead_before {s : State} {w : Watch} (h : s.Before w) : s.newHead w = s.setOpened w false :=
  testHead_before (s := s.setOpened w false) h _

theorem before_of_no_reference {s : State} {w : Watch}
    (h : ∀ b, s.head? w = some b → b.position = none) : s.Before w := by
  intro b t ht
  obtain ⟨p, hp, -⟩ := State.position_of_target? ht
  rw [h b (State.head?_of_target? ht)] at hp
  cases hp

/-! ### The parts of an index -/

/-- A record unloaded from its pocket. -/
def State.unloadMoved (s : State) (p r : Nat) : State :=
  ({ s with
    table := { s.table with jacketApproach := s.table.jacketApproach ++ [r] }
    press := { s.press with
      pockets := s.press.pockets.set p none
      awaited := some (r, ⟨s.clock, s.cfg.unloadGrace⟩) } } : State).updBook r (fun x => { x with
        life := .toJacket, position := none, press := none })

/-- A record loaded into a pocket. -/
def State.loadMoved (s : State) (p r : Nat) (commandTime : Clock) : State :=
  ({ s with press := { s.press with
      pockets := s.press.pockets.set p (some r)
      queue := s.press.queue.filter (· != r) } } : State).updBook r (fun x => { x with
        life := .pressing
        position := none
        press := some ⟨p, commandTime, 0⟩ })

theorem State.applyUnload_eq {s : State} {p r : Nat} {b : Book} (hb : s.book? r = some b)
    (hlife : b.life = .pressing) (hlen : s.table.jacketApproach.length < 6) :
    s.applyUnload p r = s.unloadMoved p r := by
  rw [State.applyUnload, hb]
  exact if_pos ⟨hlife, hlen⟩

theorem State.applyLoad_eq {s : State} {p r : Nat} {b : Book} {t : Clock} (hb : s.book? r = some b)
    (hlife : b.life = .pressQueued) : s.applyLoad p r t = s.loadMoved p r t := by
  rw [State.applyLoad, hb]
  exact if_pos hlife

theorem Book.rideOn_eq : Book.rideOn = fun x => { x with press := x.press.map (fun y =>
    { y with laps := if y.laps < 255 then y.laps + 1 else 255 }) } := by
  funext x
  unfold Book.rideOn
  have hlaps (y : PressData) : ({ y with laps := min 255 (y.laps + 1) } : PressData) =
      { y with laps := if y.laps < 255 then y.laps + 1 else 255 } := by
    congr 1
    split <;> omega
  simp only [hlaps]

/-- The unload of an index, if it has one, made. -/
def State.unloadedOf (s : State) (op : IndexOp) : State :=
  match op.unload with | some (p, r) => s.unloadMoved p r | none => s

/-- The load of an index, if it has one, made. -/
def State.loadedOf (s : State) (op : IndexOp) : State :=
  match op.load with | some (p, r) => s.loadMoved p r op.timer.since | none => s

theorem book?_unloadMoved_ne {s : State} {p r q : Nat} (h : q ≠ r) :
    (s.unloadMoved p r).book? q = s.book? q :=
  State.book?_updBook_ne _ r q (fun x => { x with life := .toJacket, position := none, press := none })
    (fun _ => rfl) h

theorem book?_loadMoved_ne {s : State} {p r q : Nat} {t : Clock} (h : q ≠ r) :
    (s.loadMoved p r t).book? q = s.book? q :=
  State.book?_updBook_ne _ r q (fun x => { x with
    life := .pressing, position := none, press := some ⟨p, t, 0⟩ }) (fun _ => rfl) h

/-- An index whose records stand in the states that its parts ask for. -/
structure State.Applies (s : State) (op : IndexOp) : Prop where
  load : ∀ p r, op.load = some (p, r) → ∃ b, s.book? r = some b ∧ b.life = .pressQueued
  unload : ∀ p r, op.unload = some (p, r) → s.table.jacketApproach.length < 6 ∧
    ∃ b, s.book? r = some b ∧ b.life = .pressing

theorem State.Applies.ne {s : State} {op : IndexOp} (h : s.Applies op) {p r p' r' : Nat}
    (hl : op.load = some (p, r)) (hu : op.unload = some (p', r')) : r ≠ r' := by
  rintro rfl
  obtain ⟨b, hb, hlife⟩ := h.load p r hl
  obtain ⟨-, c, hc, hlife'⟩ := h.unload p' r hu
  cases hb.symm.trans hc
  cases hlife.symm.trans hlife'

theorem State.Applies.unloadOf {s : State} {op : IndexOp} (h : s.Applies op) :
    s.turned.unloadOf op = s.turned.unloadedOf op := by
  unfold State.unloadOf State.unloadedOf
  cases hu : op.unload with
  | none => rfl
  | some pr =>
    obtain ⟨hlen, b, hb, hlife⟩ := h.unload pr.1 pr.2 hu
    exact State.applyUnload_eq (s := s.turned) hb hlife hlen

theorem State.Applies.loadOf {s : State} {op : IndexOp} (h : s.Applies op) :
    (s.turned.unloadedOf op).loadOf op = (s.turned.unloadedOf op).loadedOf op := by
  unfold State.loadOf State.loadedOf
  cases hl : op.load with
  | none => rfl
  | some pr =>
    obtain ⟨b, hb, hlife⟩ := h.load pr.1 pr.2 hl
    refine State.applyLoad_eq ?_ hlife
    unfold State.unloadedOf
    cases hu : op.unload with
    | none => exact hb
    | some qr => exact (book?_unloadMoved_ne (h.ne hl hu)).trans hb

theorem State.Applies.applyIndex {s : State} {op : IndexOp} (h : s.Applies op) : s.applyIndex op =
    (((s.turned.unloadedOf op).loadedOf op).applyRideOn op (s.pocket? op.station)).recomputePeriod := by
  rw [State.applyIndex_eq, h.unloadOf, h.loadOf]

/-- A record just unloaded, alone on the jacket approach, has no reference yet (R125). -/
theorem State.Applies.before {s : State} {op : IndexOp} (h : s.Applies op)
    (hfirst : s.table.jacketApproach = []) : (s.applyIndex op).Before .jacket := by
  refine before_of_no_reference fun b hb => ?_
  have hfrom : ((s.applyIndex op).table.jacketApproach.head?.bind (s.applyIndex op).book?) = some b := by
    unfold State.head? at hb
    split at hb
    · next c hc =>
      split at hb
      · rw [← hb]; exact hc
      · cases hb
    · cases hb
  have hload (t : State) : (t.loadedOf op).table.jacketApproach = t.table.jacketApproach := by
    unfold State.loadedOf
    split <;> rfl
  have hride (t : State) (o : Option Nat) :
      (t.applyRideOn op o).table.jacketApproach = t.table.jacketApproach := by
    unfold State.applyRideOn
    split <;> rfl
  have happroach : (s.applyIndex op).table.jacketApproach =
      (s.turned.unloadedOf op).table.jacketApproach := by
    rw [h.applyIndex]
    exact (hride _ _).trans (hload _)
  rw [happroach] at hfrom
  cases hu : op.unload with
  | none =>
    have hnil : (s.turned.unloadedOf op).table.jacketApproach = [] := by
      rw [State.unloadedOf, hu]; exact hfirst
    rw [hnil] at hfrom
    cases hfrom
  | some pr =>
    obtain ⟨p, r⟩ := pr
    obtain ⟨-, c, hc, -⟩ := h.unload p r hu
    have hun : s.turned.unloadedOf op = s.turned.unloadMoved p r := by rw [State.unloadedOf, hu]
    have hone : (s.turned.unloadedOf op).table.jacketApproach = [r] := by
      rw [hun]
      exact congrArg (· ++ [r]) hfirst
    have hride : ((s.turned.unloadedOf op).loadedOf op).applyRideOn op (s.pocket? op.station) =
        (s.turned.unloadedOf op).loadedOf op := by
      unfold State.applyRideOn
      rw [hu]
      split
      · next h => cases h
      · rfl
    have hread : (s.turned.unloadMoved p r).book? r =
        some { c with life := .toJacket, position := none, press := none } :=
      (State.book?_updBook_self _ r (fun x => { x with
        life := .toJacket, position := none, press := none }) (fun _ => rfl)).trans
        (congrArg (Option.map _) hc)
    have hbook : (s.applyIndex op).book? r =
        some { c with life := .toJacket, position := none, press := none } := by
      rw [h.applyIndex, hride, hun, ← hread]
      show ((s.turned.unloadMoved p r).loadedOf op).book? r = _
      unfold State.loadedOf
      cases hl : op.load with
      | none => rfl
      | some qr => exact book?_loadMoved_ne (h.ne hl hu).symm
    rw [hone, List.head?_cons, Option.bind_some, hbook] at hfrom
    rw [← Option.some.inj hfrom]

/-- The parts of an index in their order, of records that stand as they ask. -/
def State.indexed (s : State) (op : IndexOp) (occupant : Option Nat) : State :=
  (((s.unloadedOf op).loadedOf op).applyRideOn op occupant).recomputePeriod

/-- An index moves nothing of the Tracking Unit. -/
theorem State.indexed_trk (s : State) (op : IndexOp) (occupant : Option Nat) (x : Tracking) :
    ({ s with trk := x } : State).indexed op occupant = { s.indexed op occupant with trk := x } := by
  have hunload : ({ s with trk := x } : State).unloadedOf op = { s.unloadedOf op with trk := x } := by
    unfold State.unloadedOf
    cases op.unload <;> rfl
  have hload (t : State) : ({ t with trk := x } : State).loadedOf op =
      { t.loadedOf op with trk := x } := by
    unfold State.loadedOf
    cases op.load <;> rfl
  have hride (t : State) : ({ t with trk := x } : State).applyRideOn op occupant =
      { t.applyRideOn op occupant with trk := x } := by
    unfold State.applyRideOn
    split <;> rfl
  rw [State.indexed, hunload, hload, hride]
  rfl

theorem State.trk_indexed (s : State) (op : IndexOp) (occupant : Option Nat) :
    (s.indexed op occupant).trk = s.trk :=
  (congrArg State.trk (s.indexed_trk op occupant s.trk) :)

/-- Settles O45: the index applied, the new head still without a reference, and the decisions that
follow. -/
theorem indexDone : Obligations.IndexDone := by
  refine fun s hm => ⟨fun hnone => ?_, fun op hop hload hunload => ?_⟩
  · refine congrArg Host.Outcome.next (State.risingInput_ignored ?_)
    unfold State.onIndexDone
    rw [show (s.blocked 22).press.index = none from hnone]
  · have happlies : (s.blocked 22).Applies op := ⟨hload, hunload⟩
    intro turned unloaded loaded ridden
    let v := (s.blocked 22).applyIndex op
    let w := if s.table.jacketApproach = [] then v.setOpened .jacket false else v
    have heq : (s.blocked 22).onIndexDone = w.follow.pressTest := by
      have hon : (s.blocked 22).onIndexDone =
          (if s.table.jacketApproach.isEmpty then v.newHead .jacket else v).follow.pressTest := by
        unfold State.onIndexDone
        rw [show (s.blocked 22).press.index = some op from hop] <;> rfl
      rw [hon]
      by_cases hfirst : s.table.jacketApproach = []
      · rw [if_pos (by rw [hfirst]; rfl), newHead_before (happlies.before hfirst),
          show w = _ from if_pos hfirst]
      · rw [if_neg (by rwa [List.isEmpty_iff]), show w = _ from if_neg hfirst]
    have hunloaded : unloaded = turned.unloadedOf op := by
      unfold State.unloadedOf
      simp only [unloaded]
      cases op.unload <;> rfl
    have hloaded : loaded = unloaded.loadedOf op := by
      have hqueue : unloaded.press.queue = s.press.queue := by
        simp only [unloaded]
        cases op.unload <;> rfl
      unfold State.loadedOf State.loadMoved
      rw [hqueue]
      simp only [loaded]
      cases op.load <;> rfl
    have hride : ridden = loaded.applyRideOn op (s.pocket? op.station) := by
      unfold State.applyRideOn
      rw [Book.rideOn_eq]
      simp only [ridden]
      cases op.unload <;> cases s.pocket? op.station <;> rfl
    have hridden : w = ridden.recomputePeriod := by
      have hv : v = (s.blocked 22).turned.indexed op (s.pocket? op.station) := happlies.applyIndex
      have hvt : v.trk = s.trk := by rw [hv, State.trk_indexed]; rfl
      have hr : ridden.recomputePeriod = { v with trk := turned.trk } := by
        rw [hv, ← State.indexed_trk, hride, hloaded, hunloaded]
        rfl
      rw [hr]
      by_cases hfirst : s.table.jacketApproach = []
      · rw [show w = _ from if_pos hfirst]
        simp only [State.setOpened, hvt, turned, if_pos hfirst]
        rfl
      · rw [show w = _ from if_neg hfirst]
        simp only [turned, if_neg hfirst, ← hvt]
    refine ⟨_, congrArg Host.Outcome.next ((State.risingInput_input _ hm).trans heq), ?_⟩
    rw [← hridden]
    exact (decides_pressTest _).after (decides_follow w)

end Sys2Proof.Machine
end

section
/-! SUPPORT. The confirmation eyes (R65, R102, R103, R111, R127, R141). -/
namespace Sys2Proof.Machine

/-- A target that lies ahead by a distance. -/
theorem sdiff_ahead (c : Count) {d : Nat} (h : d ≤ 32767) : sdiff c (c + BitVec.ofNat 16 d) = -(d : Int) := by
  unfold sdiff
  have hneg : c - (c + BitVec.ofNat 16 d) = -BitVec.ofNat 16 d := by bv_omega
  have hd : (BitVec.ofNat 16 d).toInt = d := by
    rw [BitVec.toInt_ofNat']
    simp only [Int.bmod]
    omega
  rw [hneg, BitVec.toInt_neg, hd]
  simp only [Int.bmod]
  omega

/-- A head that has just taken its reference lies before its window. -/
theorem before_of_fresh {s : State} {w : Watch} {z : Belt}
    (hwindow : s.cfg.window.get (watchBelt w) < watchDistance s.cfg w)
    (hdistance : watchDistance s.cfg w ≤ 32767)
    (h : ∀ b, s.head? w = some b → b.position = some (z, (s.belt (watchBelt w)).count)) :
    s.Before w := by
  intro b t ht
  obtain ⟨p, hp, rfl⟩ := State.position_of_target? ht
  rw [h b (State.head?_of_target? ht)] at hp
  cases hp
  rw [sdiff_ahead _ hdistance]
  omega

/-- The head of a watch point is the record of the slot that it serves. -/
theorem State.head?_eq {s : State} {w : Watch} {r : Nat} {b c : Book} (hserved : s.firstServed w = some r)
    (hb : s.book? r = some b) (hc : s.head? w = some c) : c = b := by
  unfold State.head? at hc
  rw [hserved, Option.bind_some, hb] at hc
  dsimp only at hc
  split at hc
  · exact (Option.some.inj hc).symm
  · cases hc

theorem State.inState_of_book? {s : State} {r : Nat} {b : Book} {l : Life} (hb : s.book? r = some b)
    (hl : b.life = l) : s.inState r l = true := by
  rw [State.inState, hb]
  exact decide_eq_true hl

/-! ### Edges that confirm nothing -/

theorem State.releaseEdge_unexpected {s : State} (h : ∀ timer, s.stg.side ≠ .forwardInFlight timer) :
    s.releaseEdge = (s.noteEdge .release).fault .b .unexpected := by
  unfold State.releaseEdge
  dsimp only
  split
  · next timer hdisc => exact absurd hdisc (h _)
  all_goals rfl

theorem State.rejectEdge_unexpected {s : State} (h : ∀ timer, s.stg.side ≠ .rejectInFlight timer) :
    s.rejectEdge = (s.noteEdge .reject).fault .b .unexpected := by
  unfold State.rejectEdge
  dsimp only
  split
  · next timer hdisc => exact absurd hdisc (h _)
  all_goals rfl

theorem State.casingExitEdge_unexpected {s : State} (h : ∀ r timer, s.stg.casing ≠ .releasing r timer) :
    s.casingExitEdge = (s.noteEdge .casingExit).fault .b .unexpected := by
  unfold State.casingExitEdge
  dsimp only
  split
  · next timer hdisc => exact absurd hdisc (h _ _)
  all_goals rfl

theorem State.jacketExitEdge_unexpected {s : State} (h : ∀ r timer, s.dlv.stop ≠ .releasing r timer) :
    s.jacketExitEdge = (s.noteEdge .jacketExit).fault .c .unexpected := by
  unfold State.jacketExitEdge
  dsimp only
  split
  · next timer hdisc => exact absurd hdisc (h _ _)
  all_goals rfl

theorem State.unloadEdge_unexpected {s : State} (h : s.press.awaited = none) :
    s.unloadEdge = (s.noteEdge .unload).fault .c .unexpected := by
  unfold State.unloadEdge
  dsimp only
  split
  · next r timer haw => exact absurd (h.symm.trans haw) (by simp)
  · rfl

theorem unexpectedEdges (s : State) :
    ((s.point 9).mode = .input → (∀ timer, s.stg.side ≠ .forwardInFlight timer) →
      exec .releaseEyeEdge s =
        .next (((s.blocked 9).noteEdge .release).fault .b .unexpected)) ∧
    ((s.point 10).mode = .input → (∀ timer, s.stg.side ≠ .rejectInFlight timer) →
      exec .rejectEyeEdge s = .next (((s.blocked 10).noteEdge .reject).fault .b .unexpected)) ∧
    ((s.point 12).mode = .input → (∀ r timer, s.stg.casing ≠ .releasing r timer) →
      exec .casingExitEyeEdge s =
        .next (((s.blocked 12).noteEdge .casingExit).fault .b .unexpected)) ∧
    ((s.point 14).mode = .input → s.press.awaited = none →
      exec .unloadEyeEdge s = .next (((s.blocked 14).noteEdge .unload).fault .c .unexpected)) ∧
    ((s.point 16).mode = .input → (∀ r timer, s.dlv.stop ≠ .releasing r timer) →
      exec .jacketExitEyeEdge s =
        .next (((s.blocked 16).noteEdge .jacketExit).fault .c .unexpected)) := by
  have hrises {n : Nat} {i : Instr} {f : State → State} {t : State}
      (hexec : exec i s = .next (s.risingInput n f)) (hf : f (s.blocked n) = t)
      (hm : (s.point n).mode = .input) : exec i s = .next t :=
    hexec.trans (congrArg _ ((State.risingInput_input f hm).trans hf))
  exact ⟨fun hm h => hrises (n := 9) rfl (State.releaseEdge_unexpected h) hm,
    fun hm h => hrises (n := 10) rfl (State.rejectEdge_unexpected h) hm,
    fun hm h => hrises (n := 12) rfl (State.casingExitEdge_unexpected h) hm,
    fun hm h => hrises (n := 14) rfl (State.unloadEdge_unexpected h) hm,
    fun hm h => hrises (n := 16) rfl (State.jacketExitEdge_unexpected h) hm⟩

end Sys2Proof.Machine
end

section
/-! SUPPORT. The moves that the confirmation eyes make (R102, R103, R111, R127, R141). -/
namespace Sys2Proof.Machine

/-- The head of the staging queue sent on to the casing section with its case (R102). -/
def State.releasedForward (s : State) (r : Nat) (rest : List Nat) : State :=
  { s.updBook r (fun d => { d with
      life := .toCasing
      position := some (.b, (s.belt .b).count)
      marriedCase := s.reservedIdent }) with
    stg := { s.stg with queue := rest, casing := .approach r, side := .idle .none } }

/-- Where one record alone is served, and it has just taken its reference, the window is still ahead. -/
theorem before_of_served {s : State} {w : Watch} {z : Belt} {r : Nat} {b : Book}
    (hwindow : s.cfg.window.get (watchBelt w) < watchDistance s.cfg w)
    (hdistance : watchDistance s.cfg w ≤ 32767) (hserved : s.firstServed w = some r)
    (hb : s.book? r = some b) (hp : b.position = some (z, (s.belt (watchBelt w)).count)) :
    s.Before w :=
  before_of_fresh hwindow hdistance fun c hc => by
    rw [State.head?_eq hserved hb hc, hp]

theorem State.releaseEdge_forward {s : State} {r : Nat} {rest : List Nat} {b : Book} {timer : Timer}
    (hq : s.stg.queue = r :: rest) (hb : s.book? r = some b) (hlife : b.life = .staged)
    (hside : s.stg.side = .forwardInFlight timer) (hempty : s.stg.casing = .empty)
    (hwindow : s.cfg.window.b < s.cfg.dCase) (hdistance : s.cfg.dCase ≤ 32767) :
    s.releaseEdge = (((s.noteEdge .release).releasedForward r rest).setOpened .casing false).follow := by
  let noted := s.noteEdge .release
  have hin : noted.inState r .staged = true := State.inState_of_book? hb hlife
  have hmoved : (noted.releasedForward r rest).book? r = some { b with
      life := .toCasing, position := some (.b, (s.belt .b).count)
      marriedCase := noted.reservedIdent } :=
    (State.book?_updBook_self noted r (fun d => { d with
      life := .toCasing, position := some (.b, (noted.belt .b).count)
      marriedCase := noted.reservedIdent }) (fun _ => rfl)).trans (congrArg (Option.map _) hb)
  have hbefore : (noted.releasedForward r rest).Before .casing :=
    before_of_served (w := .casing) hwindow hdistance rfl hmoved rfl
  have heq : s.releaseEdge = ((noted.releasedForward r rest).newHead .casing).follow := by
    unfold State.releaseEdge
    dsimp only
    rw [show (s.noteEdge .release).stg.side = _ from hside,
      show (s.noteEdge .release).stg.queue = _ from hq,
      show (s.noteEdge .release).stg.casing = _ from hempty]
    exact if_pos hin
  rw [heq, newHead_before hbefore]

theorem State.rejectEdge_eq {s : State} {r : Nat} {rest : List Nat} {timer : Timer}
    (hq : s.stg.queue = r :: rest) (hside : s.stg.side = .rejectInFlight timer) : s.rejectEdge =
      (((s.noteEdge .reject).setSide (.idle .none)).retire r (.rejected none)).follow := by
  unfold State.rejectEdge
  dsimp only
  rw [show (s.noteEdge .reject).stg.side = _ from hside]
  dsimp only
  rw [show ((s.noteEdge .reject).setSide (.idle .none)).stg.queue = _ from hq]

/-- Settles O41: the edges that confirm nothing, and the two releases from the staging queue. -/
theorem stagingConfirmations : Obligations.StagingConfirmations := by
  refine ⟨unexpectedEdges, fun s r rest b timer hq hb hlife => ⟨fun hm hside hempty hw hd => ?_,
    fun hm hside => ?_⟩⟩
  · intro noted
    have heq := State.releaseEdge_forward (s := s.blocked 9) hq hb hlife hside hempty hw hd
    refine ⟨_, congrArg Host.Outcome.next ((State.risingInput_input (n := 9) _ hm).trans heq), ?_⟩
    exact decides_follow _
  · let u := ((s.blocked 10).noteEdge .reject).setSide (.idle .none)
    have hbu : u.book? r = some b := hb
    have hgone : Gone (.rejected none) [r] u (u.retire r (.rejected none)) :=
      gone_retire hbu (by rw [hlife]; rfl)
    have hread : (u.retire r (.rejected none)).book? r = some (b.asRetired (.rejected none) s.clock) := by
      rw [hgone.book? r, hbu]
      simp only [List.mem_singleton, ite_true, Option.map_some]
      rfl
    have hdec := decides_follow (u.retire r (.rejected none))
    obtain ⟨c, hc, hdecided⟩ := hdec.book?_eq hread
    have heq := State.rejectEdge_eq (s := s.blocked 10) hq hside
    refine ⟨_, c, congrArg Host.Outcome.next ((State.risingInput_input (n := 10) _ hm).trans heq),
      hdec, hc, hdecided.life, hdecided.outcome, hdecided.retiredAt, ?_, ?_, ?_⟩
    · rw [hdecided.lifeAtRetirement]
      exact congrArg some hlife
    · rw [hdec.outcomes, hgone.table]
      rfl
    · rw [hdec.queue, hgone.stg]
      simp

end Sys2Proof.Machine
end

section
/-! SUPPORT. The edges that put a record on its belt (R111, R127, R141). -/
namespace Sys2Proof.Machine

/-- A record let out of the casing section onto the way to the press (R111). -/
def State.leftCasing (s : State) (r : Nat) : State :=
  { s.updBook r (fun d => { d with life := .toPress, position := some (.b, (s.belt .b).count) }) with
    table := { (s.updBook r (fun d => { d with
      life := .toPress, position := some (.b, (s.belt .b).count) })).table with
        pressApproach := s.table.pressApproach ++ [r] }
    stg := { s.stg with casing := .empty } }

/-- A record let out of the jacket stop onto the way to the outfeed (R141). -/
def State.leftJacket (s : State) (r : Nat) : State :=
  { s.updBook r (fun d => { d with life := .toOutfeed, position := some (.c, (s.belt .c).count) }) with
    table := { (s.updBook r (fun d => { d with
      life := .toOutfeed, position := some (.c, (s.belt .c).count) })).table with
        delivery := s.table.delivery ++ [r] }
    dlv := { s.dlv with stop := .empty } }

/-- An unloaded record with its zone C reference (R127). -/
def State.unloadSeen (s : State) (r : Nat) : State :=
  { s.updBook r (fun d =>
      if d.life = .toJacket then { d with position := some (.c, (s.belt .c).count) } else d) with
    press := { s.press with awaited := none } }

theorem State.casingExitEdge_eq {s : State} {r : Nat} {b : Book} {timer : Timer}
    (hb : s.book? r = some b) (hlife : b.life = .casing) (hcasing : s.stg.casing = .releasing r timer)
    (hlen : s.table.pressApproach.length < 4) (hwindow : s.cfg.window.b < s.cfg.dPress)
    (hdistance : s.cfg.dPress ≤ 32767) : s.casingExitEdge =
      (if s.table.pressApproach = [] then
        ((s.noteEdge .casingExit).leftCasing r).setOpened .pressEntry false
      else (s.noteEdge .casingExit).leftCasing r).follow := by
  let noted := s.noteEdge .casingExit
  have hmoved : (noted.leftCasing r).book? r = some { b with
      life := .toPress, position := some (.b, (s.belt .b).count) } :=
    (State.book?_updBook_self noted r (fun d => { d with
      life := .toPress, position := some (.b, (noted.belt .b).count) }) (fun _ => rfl)).trans
      (congrArg (Option.map _) hb)
  have heq : s.casingExitEdge = (if s.table.pressApproach.isEmpty then
      (noted.leftCasing r).newHead .pressEntry else noted.leftCasing r).follow := by
    unfold State.casingExitEdge
    dsimp only
    rw [show (s.noteEdge .casingExit).stg.casing = _ from hcasing]
    exact if_pos ⟨hlen, State.inState_of_book? hb hlife⟩
  rw [heq]
  by_cases hfirst : s.table.pressApproach = []
  · have hbefore : (noted.leftCasing r).Before .pressEntry :=
      before_of_served (w := .pressEntry) hwindow hdistance
        (congrArg (fun l : List Nat => (l ++ [r]).head?) hfirst) hmoved rfl
    rw [if_pos (by rw [hfirst]; rfl), if_pos hfirst, newHead_before hbefore]
  · rw [if_neg (by rwa [List.isEmpty_iff]), if_neg hfirst]

theorem State.jacketExitEdge_eq {s : State} {r : Nat} {b : Book} {timer : Timer}
    (hb : s.book? r = some b) (hlife : b.life = .atJacket) (hstop : s.dlv.stop = .releasing r timer)
    (hlen : s.table.delivery.length < 6) (hwindow : s.cfg.window.c < s.cfg.dOut)
    (hdistance : s.cfg.dOut ≤ 32767) : s.jacketExitEdge =
      (if s.table.delivery = [] then
        ((s.noteEdge .jacketExit).leftJacket r).setOpened .outfeed false
      else (s.noteEdge .jacketExit).leftJacket r).follow := by
  let noted := s.noteEdge .jacketExit
  have hmoved : (noted.leftJacket r).book? r = some { b with
      life := .toOutfeed, position := some (.c, (s.belt .c).count) } :=
    (State.book?_updBook_self noted r (fun d => { d with
      life := .toOutfeed, position := some (.c, (noted.belt .c).count) }) (fun _ => rfl)).trans
      (congrArg (Option.map _) hb)
  have heq : s.jacketExitEdge = (if s.table.delivery.isEmpty then
      (noted.leftJacket r).newHead .outfeed else noted.leftJacket r).follow := by
    unfold State.jacketExitEdge
    dsimp only
    rw [show (s.noteEdge .jacketExit).dlv.stop = _ from hstop]
    exact if_pos ⟨hlen, State.inState_of_book? hb hlife⟩
  rw [heq]
  by_cases hfirst : s.table.delivery = []
  · have hbefore : (noted.leftJacket r).Before .outfeed :=
      before_of_served (w := .outfeed) hwindow hdistance
        (congrArg (fun l : List Nat => (l ++ [r]).head?) hfirst) hmoved rfl
    rw [if_pos (by rw [hfirst]; rfl), if_pos hfirst, newHead_before hbefore]
  · rw [if_neg (by rwa [List.isEmpty_iff]), if_neg hfirst]

theorem State.unloadEdge_eq {s : State} {r : Nat} {b : Book} {timer : Timer}
    (hb : s.book? r = some b) (hlife : b.life = .toJacket) (haw : s.press.awaited = some (r, timer))
    (hhead : s.table.jacketApproach.head? = some r →
      s.cfg.window.c < s.cfg.dJkt ∧ s.cfg.dJkt ≤ 32767) :
    s.unloadEdge = ((s.noteEdge .unload).unloadSeen r).follow.pressTest := by
  let noted := s.noteEdge .unload
  have hseen : (noted.unloadSeen r).book? r =
      some { b with position := some (.c, (s.belt .c).count) } :=
    (State.book?_updBook_self noted r (fun d =>
      if d.life = .toJacket then { d with position := some (.c, (noted.belt .c).count) } else d)
      (fun d => by split <;> rfl)).trans
      ((congrArg (Option.map _) hb).trans (congrArg some (if_pos hlife)))
  have heq : s.unloadEdge = (if s.table.jacketApproach.head? = some r then
      (noted.unloadSeen r).retest .jacket else noted.unloadSeen r).follow.pressTest := by
    unfold State.unloadEdge
    dsimp only
    rw [show (s.noteEdge .unload).press.awaited = _ from haw] <;> rfl
  rw [heq]
  by_cases hfirst : s.table.jacketApproach.head? = some r
  · obtain ⟨hwindow, hdistance⟩ := hhead hfirst
    have hbefore : (noted.unloadSeen r).Before .jacket :=
      before_of_served (w := .jacket) hwindow hdistance hfirst hseen rfl
    rw [if_pos hfirst, State.retest, testHead_before hbefore]
  · rw [if_neg hfirst]

/-- Settles O42: each edge's move, its new head still ahead of its window, and the decisions after it. -/
theorem beltConfirmations : Obligations.BeltConfirmations := by
  refine fun s r b timer hb => ⟨fun hm hcasing hlife hlen hw hd => ?_, fun hm haw hlife hhead => ?_,
    fun hm hstop hlife hlen hw hd => ?_⟩
  · intro noted
    have heq := State.casingExitEdge_eq (s := s.blocked 12) hb hlife hcasing hlen hw hd
    refine ⟨_, congrArg Host.Outcome.next ((State.risingInput_input (n := 12) _ hm).trans heq), ?_⟩
    have hopened : (if (s.blocked 12).table.pressApproach = [] then
        (noted.leftCasing r).setOpened .pressEntry false else noted.leftCasing r) =
        { noted.leftCasing r with trk := { noted.trk with opened := { s.trk.opened with
          pressEntry := if s.table.pressApproach = [] then false else s.trk.opened.pressEntry } } } := by
      by_cases hfirst : s.table.pressApproach = []
      · rw [if_pos (c := (s.blocked 12).table.pressApproach = []) hfirst, if_pos hfirst]; rfl
      · rw [if_neg (c := (s.blocked 12).table.pressApproach = []) hfirst, if_neg hfirst]; rfl
    rw [hopened]
    exact decides_follow _
  · intro noted
    have heq := State.unloadEdge_eq (s := s.blocked 14) hb hlife haw hhead
    exact ⟨_, congrArg Host.Outcome.next ((State.risingInput_input (n := 14) _ hm).trans heq),
      (decides_pressTest _).after (decides_follow _)⟩
  · intro noted
    have heq := State.jacketExitEdge_eq (s := s.blocked 16) hb hlife hstop hlen hw hd
    refine ⟨_, congrArg Host.Outcome.next ((State.risingInput_input (n := 16) _ hm).trans heq), ?_⟩
    have hopened : (if (s.blocked 16).table.delivery = [] then
        (noted.leftJacket r).setOpened .outfeed false else noted.leftJacket r) =
        { noted.leftJacket r with trk := { noted.trk with opened := { s.trk.opened with
          outfeed := if s.table.delivery = [] then false else s.trk.opened.outfeed } } } := by
      by_cases hfirst : s.table.delivery = []
      · rw [if_pos (c := (s.blocked 16).table.delivery = []) hfirst, if_pos hfirst]; rfl
      · rw [if_neg (c := (s.blocked 16).table.delivery = []) hfirst, if_neg hfirst]; rfl
    rw [hopened]
    exact decides_follow _

end Sys2Proof.Machine
end

section
/-! SUPPORT. What the Gauge Unit and the lane decision leave of all but one record and its order. -/
namespace Sys2Proof.Machine

/-- Nothing has changed but the record in one slot, the orders, and the gauging. -/
structure Touches (r : Nat) (s t : State) : Prop where
  frame : { t with
    orders := s.orders
    table := { t.table with books := s.table.books }
    gauge := { t.gauge with current := s.gauge.current } } = s
  others : ∀ q, q ≠ r → t.book? q = s.book? q
  own : ∀ b, s.book? r = some b → ∃ c, t.book? r = some c

theorem Touches.refl (r : Nat) (s : State) : Touches r s s := ⟨rfl, fun _ _ => rfl, fun b h => ⟨b, h⟩⟩

theorem Touches.trans {r : Nat} {s t u : State} (h : Touches r s t) (g : Touches r t u) :
    Touches r s u where
  frame := (congrArg (fun v : State => { v with
    orders := s.orders
    table := { v.table with books := s.table.books }
    gauge := { v.gauge with current := s.gauge.current } }) g.frame :).trans h.frame
  others q hq := (g.others q hq).trans (h.others q hq)
  own b hb := by
    obtain ⟨c, hc⟩ := h.own b hb
    exact g.own c hc

theorem Touches.after {r : Nat} {s t u : State} (g : Touches r t u) (h : Touches r s t) :
    Touches r s u := h.trans g

theorem touches_updBook (s : State) (r : Nat) {f : Book → Book} (hf : ∀ b, (f b).slot = b.slot) :
    Touches r s (s.updBook r f) :=
  ⟨rfl, fun q hq => State.book?_updBook_ne s r q f hf hq, fun b hb =>
    ⟨f b, (State.book?_updBook_self s r f hf).trans (congrArg (Option.map f) hb)⟩⟩

theorem touches_updOrder (s : State) (r n : Nat) (f : Order → Order) : Touches r s (s.updOrder n f) :=
  ⟨rfl, fun _ _ => rfl, fun b hb => ⟨b, hb⟩⟩

theorem touches_setGauging (s : State) (r : Nat) (g : Option Gauging) : Touches r s (s.setGauging g) :=
  ⟨rfl, fun _ _ => rfl, fun b hb => ⟨b, hb⟩⟩

theorem Book.slot_judged (b : Book) (k : Template) (limit : Nat) : (b.judged k limit).slot = b.slot := by
  unfold Book.judged
  split
  · split
    · rfl
    · split
      · rfl
      · split <;> rfl
  · rfl

theorem touches_runVerdict (s : State) (r : Nat) : Touches r s (s.runVerdict r) := by
  refine touches_updBook s r fun b => ?_
  split
  · split <;> [exact b.slot_judged _ _; rfl]
  · rfl

theorem touches_unbind (s : State) (r : Nat) (why : Reason) : Touches r s (s.unbind r why) := by
  refine touches_updBook s r fun b => ?_
  split
  · split <;> rfl
  · rfl

theorem touches_bind (s : State) (r : Nat) (i : Ident) (o : Order) : Touches r s (s.bind r i o) := by
  have hbound : Touches r s (s.bindBook r i o) :=
    (touches_updOrder _ r i.order _).after (touches_updBook s r fun _ => rfl)
  rw [State.bind_eq]
  split
  · split <;> [exact hbound.trans (touches_runVerdict _ r); exact hbound]
  · exact hbound

theorem touches_identifyAs (s : State) (r : Nat) (i : Ident) : Touches r s (s.identifyAs r i) := by
  unfold State.identifyAs
  split
  · split
    · split
      · exact touches_unbind s r _
      · exact touches_updBook s r fun _ => rfl
      · exact touches_bind s r i _
    · exact .refl r s
  · exact .refl r s

theorem touches_identifyWindow (s : State) (r : Nat) (w : ReadWindow) :
    Touches r s (s.identifyWindow r w) := by
  have hbad : Touches r s (s.updBook r (fun b => { b with badRead := b.badRead || w.bad })) :=
    touches_updBook s r fun _ => rfl
  unfold State.identifyWindow
  dsimp only
  split
  · exact hbad.trans (touches_unbind _ r _)
  · split
    · exact (touches_identifyAs _ r _).after (hbad.trans (touches_updBook _ r fun _ => rfl))
    · exact hbad.trans (touches_unbind _ r _)

theorem touches_finishGauging (s : State) (r : Nat) : Touches r s (s.finishGauging r) := by
  refine (touches_setGauging _ r none).after ((touches_updBook _ r fun b => ?_).after
    ((touches_runVerdict _ r).after (touches_updBook s r fun b => ?_)))
  · split <;> rfl
  · unfold Book.withThickness
    dsimp only
    split <;> rfl

/-! ### The gauging record -/

/-- What a step of the Gauge Unit does to the record it is gauging: nothing else moves, and the record
stays the one that is gauged until its gauging completes. -/
structure Gauges (r : Nat) (s t : State) : Prop where
  touches : Touches r s t
  current : t.gauge.current = none ∨ ∃ g, t.gauge.current = some g ∧ g.slot = r

theorem Gauges.refl {r : Nat} {s : State} {g : Gauging} (hg : s.gauge.current = some g)
    (hr : g.slot = r) : Gauges r s s := ⟨.refl r s, .inr ⟨g, hg, hr⟩⟩

theorem Gauges.then {r : Nat} {s t : State} {f : State → State} (h : Gauges r s t)
    (hnone : t.gauge.current = none → f t = t)
    (hf : ∀ g, t.gauge.current = some g → g.slot = r → Gauges r t (f t)) : Gauges r s (f t) := by
  rcases h.current with hn | ⟨g, hg, hr⟩
  · rw [hnone hn]; exact h
  · exact ⟨h.touches.trans (hf g hg hr).touches, (hf g hg hr).current⟩

theorem gauges_completionTest {r : Nat} {s : State} {g : Gauging} (hg : s.gauge.current = some g)
    (hr : g.slot = r) : Gauges r s s.completionTest := by
  unfold State.completionTest
  rw [hg]
  dsimp only
  split
  · split
    · exact ⟨hr ▸ touches_finishGauging s g.slot, .inl rfl⟩
    · exact .refl hg hr
  · exact .refl hg hr

theorem State.gauge_identifyWindow (s : State) (r : Nat) (w : ReadWindow) :
    (s.identifyWindow r w).gauge = s.gauge := by
  have hverdict (u : State) : (u.runVerdict r).gauge = u.gauge := rfl
  have hbind (u : State) (i : Ident) (o : Order) : (u.bind r i o).gauge = u.gauge := by
    rw [State.bind_eq]
    split
    · split <;> rfl
    · rfl
  have hidentify (u : State) (i : Ident) : (u.identifyAs r i).gauge = u.gauge := by
    unfold State.identifyAs
    split
    · split
      · split <;> [rfl; rfl; exact hbind u i _]
      · rfl
    · rfl
  unfold State.identifyWindow
  dsimp only
  split
  · rfl
  · split
    · exact hidentify _ _
    · rfl

theorem gauges_closeWindow {r : Nat} {s : State} {g : Gauging} (hg : s.gauge.current = some g)
    (hr : g.slot = r) : Gauges r s s.closeWindow := by
  unfold State.closeWindow
  rw [hg]
  dsimp only
  split
  · subst hr
    refine ⟨(touches_identifyWindow _ _ _).after (touches_setGauging s _ _), .inr ?_⟩
    rw [State.gauge_identifyWindow]
    exact ⟨_, rfl, rfl⟩
  · exact .refl hg hr

theorem gauges_endLength {r : Nat} {s : State} {g : Gauging} (hg : s.gauge.current = some g)
    (hr : g.slot = r) : Gauges r s s.endLength := by
  unfold State.endLength
  rw [hg]
  dsimp only
  split
  · exact ⟨touches_setGauging s r _, .inr ⟨_, rfl, hr⟩⟩
  · exact .refl hg hr

theorem gauges_settleSamples {r : Nat} {s : State} {g : Gauging} (hg : s.gauge.current = some g)
    (hr : g.slot = r) : Gauges r s s.settleSamples := by
  unfold State.settleSamples
  rw [hg]
  subst hr
  exact ⟨touches_updBook s _ fun _ => rfl, .inr ⟨g, hg, rfl⟩⟩

/-- Without a gauging record, the Gauge Unit's steps do nothing. -/
theorem State.gauge_steps_none {s : State} (h : s.gauge.current = none) : s.completionTest = s ∧
    s.closeWindow = s ∧ s.endLength = s ∧ s.settleSamples = s := by
  simp only [State.completionTest, State.closeWindow, State.endLength, State.settleSamples, h, and_self]

theorem gauges_forceCompletion {r : Nat} {s : State} {g : Gauging} (hg : s.gauge.current = some g)
    (hr : g.slot = r) : Gauges r s s.forceCompletion :=
  (((gauges_closeWindow hg hr).then (fun h => (State.gauge_steps_none h).2.2.2)
    (fun _ => gauges_settleSamples)).then (fun h => (State.gauge_steps_none h).2.2.1)
    (fun _ => gauges_endLength)).then (fun h => (State.gauge_steps_none h).1)
    (fun _ => gauges_completionTest)

end Sys2Proof.Machine
end

section
/-! SUPPORT. A new head at a watch point, from the state in which it came (R66, R67, R71). -/
namespace Sys2Proof.Machine

/-- The window of a watch point opens for the record in slot `r` (R67, R86, R142). -/
structure Opens (w : Watch) (r : Nat) (u t : State) : Prop where
  touches : Touches r u { t with trk := u.trk, dlv := u.dlv }
  trk : t.trk = (u.setOpened w true).trk
  dlv : t.dlv = { u.dlv with gate := t.dlv.gate }

theorem touches_noteProof (s : State) (r : Nat) (b : Book) (takes : Bool) :
    Touches r s (s.noteProof b takes) := by
  unfold State.noteProof
  split
  · split <;> [exact touches_updOrder s r _ _; exact .refl r s]
  · exact .refl r s

/-- The lane decision: the record, its order and the gate. -/
theorem opens_setLane (u : State) (b : Book) : Opens .outfeed b.slot u ((u.setOpened .outfeed true).setLane b) := by
  let v := u.setOpened .outfeed true
  cases hl : b.lane with
  | some l =>
    rw [State.setLane_set hl]
    exact ⟨.refl _ u, rfl, rfl⟩
  | none =>
    have hlane : Touches b.slot v ((v.putLane b).noteProof b (takesProof b (v.proofTaken b))) :=
      (touches_noteProof _ _ b _).after (touches_updBook v b.slot fun _ => rfl)
    rw [State.setLane_eq hl]
    refine ⟨⟨?_, hlane.others, hlane.own⟩, (congrArg State.trk hlane.frame :), ?_⟩
    · exact (congrArg (fun t : State => { t with trk := u.trk, dlv := u.dlv }) hlane.frame :)
    · exact (congrArg (fun t : State => { t.dlv with gate := laneOf b (v.proofTaken b) }) hlane.frame :)

theorem opens_openWindow (u : State) (w : Watch) (b : Book) : Opens w b.slot u (u.openWindow w b) := by
  cases w with
  | outfeed => exact opens_setLane u b
  | casing | pressEntry | jacket => exact ⟨.refl _ u, rfl, rfl⟩
  | stagingEntry =>
    unfold State.openWindow
    dsimp only
    split
    · next g hg =>
      split
      · next hcond =>
        have htouches := (gauges_forceCompletion hg hcond.1).touches
        have hdlv : (u.setOpened .stagingEntry true).forceCompletion.dlv = u.dlv :=
          (congrArg State.dlv htouches.frame :)
        refine ⟨⟨?_, htouches.others, htouches.own⟩, (congrArg State.trk htouches.frame :),
          by rw [hdlv]⟩
        exact (congrArg (fun t : State => { t with trk := u.trk, dlv := u.dlv }) htouches.frame :)
      · exact ⟨.refl _ u, rfl, rfl⟩
    · exact ⟨.refl _ u, rfl, rfl⟩

theorem State.HeadTested.opened {w : Watch} {u t : State} (h : u.HeadTested w t) :
    t = u ∨ ∃ b, u.head? w = some b ∧ Opens w b.slot u t := by
  unfold State.HeadTested at h
  split at h
  · exact .inl h
  · next b target ht =>
    split at h
    · split at h
      · exact .inl h
      · exact .inr ⟨b, State.head?_of_target? ht, h ▸ opens_openWindow u w b⟩
    · exact .inl h.2

/-- What the tests of a watch point's heads leave of all but the orders, the gauging record, and the
record whose window opens. -/
structure Reheads (w : Watch) (gone : List Nat) (s t : State) : Prop where
  lost : ∀ r ∈ gone, ∃ x, s.book? r = some x ∧ headState w x.life = true ∧ s.Beyond w x ∧
    t.book? r = some (x.asRetired .lost s.clock)
  kept : ∀ r x, s.book? r = some x → headState w x.life = false → t.book? r = some x
  own : ∀ r x, s.book? r = some x → ∃ y, t.book? r = some y
  frame : { t with
    orders := s.orders, table := s.table, trk := s.trk, gauge := s.gauge, stg := s.stg, press := s.press
    dlv := s.dlv, zones := s.zones } = s
  table : t.table = { s.table with
    books := t.table.books
    outcomes := s.table.outcomes ++ gone
    transit := without gone s.table.transit
    pressApproach := without gone s.table.pressApproach
    jacketApproach := without gone s.table.jacketApproach
    delivery := without gone s.table.delivery }
  trk : t.trk = { s.trk with opened := t.trk.opened }
  opened : ∀ x, x ≠ w → t.trk.opened.get x = s.trk.opened.get x
  gauge : t.gauge = { s.gauge with current := t.gauge.current }
  stg : t.stg = { s.stg with
    queue := without gone s.stg.queue
    casing := if s.stg.casing.record?.any (· ∈ gone) then .empty else s.stg.casing
    cases := if w = .casing ∧ gone ≠ [] then markHead false s.stg.cases else s.stg.cases
    side := t.stg.side }
  press : t.press = { s.press with
    queue := without gone s.press.queue
    pockets := s.press.pockets.map (fun p => if p.any (· ∈ gone) then none else p) }
  dlv : t.dlv = { s.dlv with stop := t.dlv.stop, gate := t.dlv.gate }
  stop : t.dlv.stop.record? =
    if s.dlv.stop.record?.any (· ∈ gone) then none else s.dlv.stop.record?
  zones : ∀ y, t.zones.get y = if y = beltZone (watchBelt w)
    then gone.foldl (fun k _ => k.reported .missing) (s.zones.get y) else s.zones.get y

theorem PerWatch.get_set_ne {α : Type} (p : PerWatch α) {w x : Watch} (v : α) (h : x ≠ w) :
    (p.set w v).get x = p.get x := (PerWatch.get_set p w x v).trans (if_neg h)

theorem Loses.opened_ne {w x : Watch} {Q : Book → Prop} {gone : List Nat} {s u : State}
    (h : Loses w Q gone s u) (hx : x ≠ w) : u.trk.opened.get x = s.trk.opened.get x := by
  rw [h.trk]
  dsimp only
  split
  · rfl
  · exact PerWatch.get_set_ne _ _ hx

/-- A lost record's own slot is none whose window can open. -/
theorem Loses.head_notMem {w : Watch} {Q : Book → Prop} {gone : List Nat} {s u : State}
    (h : Loses w Q gone s u) {b : Book} (hb : u.head? w = some b) : b.slot ∉ gone := by
  intro hmem
  obtain ⟨x, hx, -, -⟩ := h.lost _ hmem
  have hread := h.book? b.slot
  rw [State.book?_of_head? hb, hx, Option.map_some, if_pos hmem] at hread
  have hlife := State.life_of_head? hb
  rw [Option.some.inj hread] at hlife
  exact live_of_headState hlife rfl

theorem Loses.reheads {w : Watch} {gone : List Nat} {s u t : State}
    (h : Loses w (s.Beyond w) gone s u) (htested : u.HeadTested w t) : Reheads w gone s t := by
  have hreads (r : Nat) (x : Book) (hx : s.book? r = some x) :
      u.book? r = some (if r ∈ gone then x.asRetired .lost s.clock else x) := by
    rw [h.book? r, hx]; rfl
  have hkept (r : Nat) (x : Book) (hx : s.book? r = some x) (hl : headState w x.life = false) :
      u.book? r = some x := by
    rw [hreads r x hx, if_neg]
    intro hmem
    obtain ⟨y, hy, hly, -⟩ := h.lost r hmem
    cases hx.symm.trans hy
    rw [hl] at hly
    cases hly
  rcases htested.opened with rfl | ⟨b, hb, hopens⟩
  · exact {
      lost := fun r hr => by
        obtain ⟨x, hx, hlife, hq⟩ := h.lost r hr
        exact ⟨x, hx, hlife, hq, (hreads r x hx).trans (congrArg some (if_pos hr))⟩
      kept := hkept
      own := fun r x hx => ⟨_, hreads r x hx⟩
      frame := h.frame
      table := h.table
      trk := by rw [h.trk]
      opened := fun x hx => h.opened_ne hx
      gauge := h.gauge
      stg := h.stg
      press := h.press
      dlv := by rw [h.dlv]
      stop := h.stop
      zones := h.zones }
  · have hframe := hopens.touches.frame
    have hbu := State.book?_of_head? hb
    have htable : t.table = { u.table with books := t.table.books } :=
      (congrArg (fun v : State => { v.table with books := t.table.books }) hframe :)
    have hstg : t.stg = u.stg := (congrArg State.stg hframe :)
    exact {
      lost := fun r hr => by
        obtain ⟨x, hx, hlife, hq⟩ := h.lost r hr
        have hne : r ≠ b.slot := fun heq => h.head_notMem hb (heq ▸ hr)
        exact ⟨x, hx, hlife, hq, (hopens.touches.others r hne).trans
          ((hreads r x hx).trans (congrArg some (if_pos hr)))⟩
      kept := fun r x hx hl => by
        have hne : r ≠ b.slot := fun heq => by
          have hxb := (hkept r x hx hl).symm.trans (heq ▸ hbu)
          have hlife := State.life_of_head? hb
          rw [← Option.some.inj hxb, hl] at hlife
          cases hlife
        exact (hopens.touches.others r hne).trans (hkept r x hx hl)
      own := fun r x hx => by
        by_cases hr : r = b.slot
        · subst hr
          exact hopens.touches.own b hbu
        · exact ⟨_, (hopens.touches.others r hr).trans (hreads r x hx)⟩
      frame := (congrArg (fun v : State => { v with
        orders := s.orders, table := s.table, trk := s.trk, gauge := s.gauge, stg := s.stg
        press := s.press, dlv := s.dlv, zones := s.zones }) hframe :).trans h.frame
      table := htable.trans (by rw [h.table])
      trk := by rw [hopens.trk]; simp only [State.setOpened, h.trk]
      opened := fun x hx => by
        rw [hopens.trk]
        exact (PerWatch.get_set_ne _ _ hx).trans (h.opened_ne hx)
      gauge := (congrArg (fun v : State => { v.gauge with current := t.gauge.current }) hframe :).trans
        (by rw [h.gauge])
      stg := by rw [hstg]; exact h.stg
      press := (congrArg State.press hframe :).trans h.press
      dlv := by rw [hopens.dlv, h.dlv]
      stop := by rw [hopens.dlv]; exact h.stop
      zones := fun y => (congrArg (fun v : State => v.zones.get y) hframe :).trans (h.zones y) }

/-- A new head. -/
theorem newHead_reheads (s : State) (w : Watch) :
    ∃ gone, Reheads w gone (s.setOpened w false) (s.newHead w) := by
  obtain ⟨gone, u, hloses, -, htested⟩ := newHead_spec s w
  exact ⟨gone, hloses.reheads htested⟩

/-- A record that stands at no watch point is not among the lost. -/
theorem Reheads.notMem {w : Watch} {gone : List Nat} {s t : State} (h : Reheads w gone s t) {r : Nat}
    {x : Book} (hx : s.book? r = some x) (hl : headState w x.life = false) : r ∉ gone := by
  intro hmem
  obtain ⟨y, hy, hly, -⟩ := h.lost r hmem
  cases hx.symm.trans hy
  rw [hl] at hly
  cases hly

end Sys2Proof.Machine
end

section
/-! SUPPORT. Arrivals at the watch points (R68, R69, R72, R92, R108, R118, R136, R144). -/
namespace Sys2Proof.Machine

/-- A casing section that is not CASED keeps its state as the units decide. -/
theorem State.casing_follow {s : State} (h : ∀ r, s.stg.casing ≠ .cased r) :
    s.follow.stg.casing = s.stg.casing := by
  have hrelease : s.bpTests.casingReleaseTest.stg.casing = s.stg.casing := by
    have hcasing : s.bpTests.stg.casing = s.stg.casing := rfl
    unfold State.casingReleaseTest
    split
    · next r hr => exact absurd (hcasing.symm.trans hr) (h r)
    all_goals exact hcasing
  unfold State.follow State.announce
  rw [State.drainTests_stg_casing, State.jacketReleaseTest_stg, State.jacketDecide_stg,
    State.stagingDecide_casing, hrelease]

/-- The casing cycle test of a section whose cycle is pending (R108). -/
theorem State.casingCycleTest_of_pending {s : State} {r : Nat} (h : s.stg.casing = .cyclePending r) :
    s.casingCycleTest.stg.casing = if s.active .b ∧ s.io.armed then
      .inCycle r ⟨s.clock, s.cfg.casingTimeout⟩ else .cyclePending r := by
  unfold State.casingCycleTest
  rw [h]
  dsimp only
  by_cases hc : s.active .b = true ∧ s.io.armed = true
  · rw [if_pos hc, if_pos (by rw [hc.1, hc.2]; rfl), State.stagingDecide_casing]
    rfl
  · rw [if_neg hc, if_neg (by rwa [Bool.and_eq_true]), h]

theorem exec_watchPointArrival (s : State) (w : Watch) : exec (.watchPointArrival w) s =
    .next (s.risingInput (eyePoint (watchEye w)) (State.watchEdge · w)) := by
  cases w <;> rfl

/-- A record that has moved on to state `l`. -/
def Book.movedTo (b : Book) (l : Life) : Book := { b with life := l, position := none }

theorem Book.Decided.movedTo {b c : Book} {l : Life} (h : (b.movedTo l).Decided c) :
    c.position = none ∧ c.life = l ∧
      ({ c with life := b.life, position := b.position } : Book).fixed = b.fixed :=
  ⟨h.position, h.life,
    congrArg (fun x : Book => ({ x with life := b.life, position := b.position } : Book)) h.fixed⟩

/-- The record that has moved on stays as it is as the next head is tested and the units decide. -/
theorem reheads_moved {w : Watch} {gone : List Nat} {v u x t : State} {b : Book} {l : Life}
    (h : Reheads w gone v u) (hv : v.book? b.slot = some (b.movedTo l)) (hl : headState w l = false)
    (hx : x.table = u.table) (hdec : Decides x t) :
    b.slot ∉ gone ∧ ∃ c, t.book? b.slot = some c ∧ (b.movedTo l).Decided c := by
  have hu : x.book? b.slot = some (b.movedTo l) := by
    unfold State.book?
    rw [hx]
    exact h.kept _ _ hv hl
  exact ⟨h.notMem hv hl, hdec.book?_eq hu⟩

theorem getLast?_without_append {gone l : List Nat} {r : Nat} (h : r ∉ gone) :
    (without gone (l ++ [r])).getLast? = some r := by
  unfold without
  rw [List.filter_append]
  simp [h]

theorem notMem_without {gone l : List Nat} {r : Nat} (h : r ∉ l) : r ∉ without gone l :=
  fun hm => h (List.mem_of_mem_filter hm)

theorem notMem_filter_bne (l : List Nat) (r : Nat) : r ∉ l.filter (· != r) := by
  simp [List.mem_filter]

theorem Decides.transit {s t : State} (h : Decides s t) : t.table.transit = s.table.transit :=
  (congrArg BookTable.transit h.table :)

theorem Decides.pressApproach {s t : State} (h : Decides s t) :
    t.table.pressApproach = s.table.pressApproach := (congrArg BookTable.pressApproach h.table :)

theorem Decides.delivery {s t : State} (h : Decides s t) : t.table.delivery = s.table.delivery :=
  (congrArg BookTable.delivery h.table :)

theorem Decides.pressQueue {s t : State} (h : Decides s t) : t.press.queue = s.press.queue :=
  (congrArg PressUnit.queue h.press :)

section
variable {w : Watch} {gone : List Nat} {s t : State}

theorem Reheads.transit (h : Reheads w gone s t) : t.table.transit = without gone s.table.transit := by
  rw [h.table]

theorem Reheads.pressApproach (h : Reheads w gone s t) :
    t.table.pressApproach = without gone s.table.pressApproach := by
  rw [h.table]

theorem Reheads.jacketApproach (h : Reheads w gone s t) :
    t.table.jacketApproach = without gone s.table.jacketApproach := by
  rw [h.table]

theorem Reheads.delivery (h : Reheads w gone s t) :
    t.table.delivery = without gone s.table.delivery := by
  rw [h.table]

theorem Reheads.outcomes (h : Reheads w gone s t) :
    t.table.outcomes = s.table.outcomes ++ gone := by
  rw [h.table]

theorem Reheads.queue (h : Reheads w gone s t) : t.stg.queue = without gone s.stg.queue := by
  rw [h.stg]

theorem Reheads.pressQueue (h : Reheads w gone s t) : t.press.queue = without gone s.press.queue := by
  rw [h.press]

end

/-- The record of slot `r` moved to state `l`. -/
def State.moved (s : State) (r : Nat) (l : Life) : State := s.updBook r (Book.movedTo · l)

theorem State.book?_moved {s : State} {b : Book} (l : Life) (hb : s.book? b.slot = some b) :
    (s.moved b.slot l).book? b.slot = some (b.movedTo l) :=
  (State.book?_updBook_self s b.slot (Book.movedTo · l) fun _ => rfl).trans
    (congrArg (Option.map _) hb)

def State.joinStaging (s : State) (r : Nat) : State :=
  let u := s.moved r .staged
  { u with
    table := { u.table with transit := u.table.transit.filter (· != r) }
    stg := { u.stg with queue := u.stg.queue ++ [r] } }

def State.joinPress (s : State) (r : Nat) : State :=
  let u := s.moved r .pressQueued
  { u with
    table := { u.table with pressApproach := u.table.pressApproach.filter (· != r) }
    press := { u.press with queue := u.press.queue ++ [r] } }

def State.joinStop (s : State) (r : Nat) : State :=
  let u := s.moved r .atJacket
  { u with
    table := { u.table with jacketApproach := u.table.jacketApproach.filter (· != r) }
    dlv := { u.dlv with stop := .waiting r none } }

theorem State.arriveStaging_eq {s : State} {b : Book} (h : s.stg.queue.length < 4) :
    s.arrive .stagingEntry b = ((s.joinStaging b.slot).newHead .stagingEntry).follow := if_pos h

theorem State.arrivePress_eq {s : State} {b : Book} (h : s.press.queue.length < 3) :
    s.arrive .pressEntry b = ((s.joinPress b.slot).newHead .pressEntry).recomputePeriod.follow.pressTest :=
  if_pos h

theorem State.arriveJacket_eq {s : State} {b : Book} (h : s.dlv.stop = .empty) :
    s.arrive .jacket b = ((s.joinStop b.slot).newHead .jacket).follow := by
  show s.arriveJacket b = _
  unfold State.arriveJacket
  rw [h]
  rfl

/-- An arrival at the staging entry (R92). -/
theorem State.arriveStaging_spec {s : State} {b : Book} (hb : s.book? b.slot = some b)
    (h : s.stg.queue.length < 4) :
    ∃ c, (s.arrive .stagingEntry b).book? b.slot = some c ∧ (b.movedTo .staged).Decided c ∧
      (s.arrive .stagingEntry b).stg.queue.getLast? = some b.slot ∧
      b.slot ∉ (s.arrive .stagingEntry b).table.transit := by
  rw [State.arriveStaging_eq h]
  have hdec := decides_follow ((s.joinStaging b.slot).newHead .stagingEntry)
  obtain ⟨gone, hre⟩ := newHead_reheads (s.joinStaging b.slot) .stagingEntry
  obtain ⟨hgone, c, hc, hdecided⟩ := reheads_moved hre (State.book?_moved .staged hb) rfl rfl hdec
  refine ⟨c, hc, hdecided, ?_, ?_⟩
  · rw [hdec.queue, hre.queue]
    exact getLast?_without_append hgone
  · rw [hdec.transit, hre.transit]
    exact notMem_without (notMem_filter_bne _ _)

/-- An arrival at the press entry (R118). -/
theorem State.arrivePress_spec {s : State} {b : Book} (hb : s.book? b.slot = some b)
    (h : s.press.queue.length < 3) :
    ∃ c, (s.arrive .pressEntry b).book? b.slot = some c ∧ (b.movedTo .pressQueued).Decided c ∧
      (s.arrive .pressEntry b).press.queue.getLast? = some b.slot ∧
      b.slot ∉ (s.arrive .pressEntry b).table.pressApproach := by
  rw [State.arrivePress_eq h]
  obtain ⟨gone, hre⟩ := newHead_reheads (s.joinPress b.slot) .pressEntry
  generalize (s.joinPress b.slot).newHead .pressEntry = u at hre ⊢
  have hdec := (decides_pressTest u.recomputePeriod.follow).after (decides_follow u.recomputePeriod)
  obtain ⟨hgone, c, hc, hdecided⟩ := reheads_moved hre (State.book?_moved .pressQueued hb) rfl
    (x := u.recomputePeriod) rfl hdec
  refine ⟨c, hc, hdecided, ?_, ?_⟩
  · rw [hdec.pressQueue, show u.recomputePeriod.press.queue = u.press.queue from rfl, hre.pressQueue]
    exact getLast?_without_append hgone
  · rw [hdec.pressApproach, show u.recomputePeriod.table = u.table from rfl, hre.pressApproach]
    exact notMem_without (notMem_filter_bne _ _)

/-- An arrival at the jacket stop (R136). -/
theorem State.arriveJacket_spec {s : State} {b : Book} (hb : s.book? b.slot = some b)
    (h : s.dlv.stop = .empty) :
    ∃ c, (s.arrive .jacket b).book? b.slot = some c ∧ (b.movedTo .atJacket).Decided c ∧
      (s.arrive .jacket b).dlv.stop.record? = some b.slot ∧
      b.slot ∉ (s.arrive .jacket b).table.jacketApproach := by
  rw [State.arriveJacket_eq h]
  have hdec := decides_follow ((s.joinStop b.slot).newHead .jacket)
  obtain ⟨gone, hre⟩ := newHead_reheads (s.joinStop b.slot) .jacket
  obtain ⟨hgone, c, hc, hdecided⟩ := reheads_moved hre (State.book?_moved .atJacket hb) rfl rfl hdec
  refine ⟨c, hc, hdecided, ?_, ?_⟩
  · rw [hdec.stop, hre.stop]
    exact if_neg (by simp [State.joinStop, State.setOpened, JacketStop.record?, hgone])
  · rw [hdec.jacketApproach, hre.jacketApproach]
    exact notMem_without (notMem_filter_bne _ _)

/-- An arrival at the casing section (R108). -/
theorem State.arriveCasing_spec {s : State} {b : Book} (hb : s.book? b.slot = some b) :
    ∃ c, (s.arrive .casing b).book? b.slot = some c ∧ (b.movedTo .casing).Decided c ∧
      (s.arrive .casing b).stg.casing = if s.active .b ∧ s.io.armed then
        .inCycle b.slot ⟨s.clock, s.cfg.casingTimeout⟩ else .cyclePending b.slot := by
  let v := ((s.moved b.slot .casing).setCasing (.cyclePending b.slot)).setOpened .casing false
  have heq : s.arrive .casing b = v.casingCycleTest.follow := rfl
  have hcasing := State.casingCycleTest_of_pending (s := v) (r := b.slot) rfl
  have hdec := (decides_follow v.casingCycleTest).after (decides_casingCycleTest v)
  rw [heq]
  obtain ⟨c, hc, hdecided⟩ := hdec.book?_eq
    (show v.book? b.slot = some _ from State.book?_moved .casing hb)
  refine ⟨c, hc, hdecided, (State.casing_follow fun r => ?_).trans hcasing⟩
  rw [hcasing]
  split <;> nofun

theorem outcomeFrom_outfeed {b : Book} (h : headState .outfeed b.life = true) (l : Lane) :
    outcomeFrom (laneOutcome b l) b.life = true := by
  have hlife : b.life = .toOutfeed := of_decide_eq_true h
  rw [hlife]
  cases l <;> rfl

/-- An arrival at the outfeed (R144). -/
theorem State.arriveOutfeed_spec {s : State} {b : Book} {l : Lane} (hb : s.book? b.slot = some b)
    (hlife : headState .outfeed b.life = true) (hl : b.lane = some l) :
    ∃ c, (s.arrive .outfeed b).book? b.slot = some c ∧
      (b.asRetired (laneOutcome b l) s.clock).Decided c ∧
      b.slot ∈ (s.arrive .outfeed b).table.outcomes ∧
      b.slot ∉ (s.arrive .outfeed b).table.delivery := by
  let v := s.retire b.slot (laneOutcome b l)
  have heq : s.arrive .outfeed b = (v.newHead .outfeed).follow := by
    show s.arriveOutfeed b = _
    unfold State.arriveOutfeed
    rw [hl]
  have hgone : Gone (laneOutcome b l) [b.slot] s v :=
    gone_retire hb (outcomeFrom_outfeed hlife l)
  have hread : v.book? b.slot = some (b.asRetired (laneOutcome b l) s.clock) := by
    rw [hgone.book? b.slot, hb]
    exact congrArg some (if_pos (List.mem_singleton_self _))
  rw [heq]
  obtain ⟨gone, hre⟩ := newHead_reheads v .outfeed
  have hdec := decides_follow (v.newHead .outfeed)
  obtain ⟨c, hc, hdecided⟩ := hdec.book?_eq (hre.kept _ _ hread rfl)
  refine ⟨c, hc, hdecided, ?_, ?_⟩
  · rw [hdec.outcomes, hre.outcomes]
    refine List.mem_append_left _ ?_
    show b.slot ∈ v.table.outcomes
    rw [hgone.table]
    exact List.mem_append_right _ (List.mem_singleton_self _)
  · rw [hdec.delivery, hre.delivery]
    refine notMem_without ?_
    show b.slot ∉ v.table.delivery
    rw [hgone.table]
    simp [without]

/-- The state with the edge noted. -/
def State.watchNoted (s : State) (w : Watch) : State :=
  (s.blocked (eyePoint (watchEye w))).noteEdge (watchEye w)

theorem State.watchEdge_none {s : State} {w : Watch} (h : s.target? w = none) :
    (s.blocked (eyePoint (watchEye w))).watchEdge w =
      (s.watchNoted w).fault (beltZone (watchBelt w)) .unexpected := by
  have htarget : (s.watchNoted w).target? w = none := h
  unfold State.watchEdge
  exact (congrArg (fun o : Option (Book × Count) => match o with
    | some (b, t) => if (s.watchNoted w).inWindow w t then (s.watchNoted w).arrive w b
      else (s.watchNoted w).unexpected (watchBelt w)
    | none => (s.watchNoted w).unexpected (watchBelt w)) htarget :)

theorem State.watchEdge_some {s : State} {w : Watch} {b : Book} {target : Count}
    (h : s.target? w = some (b, target)) :
    (s.blocked (eyePoint (watchEye w))).watchEdge w = if s.inWindow w target
      then (s.watchNoted w).arrive w b
      else (s.watchNoted w).fault (beltZone (watchBelt w)) .unexpected := by
  have htarget : (s.watchNoted w).target? w = some (b, target) := h
  unfold State.watchEdge
  exact (congrArg (fun o : Option (Book × Count) => match o with
    | some (b, t) => if (s.watchNoted w).inWindow w t then (s.watchNoted w).arrive w b
      else (s.watchNoted w).unexpected (watchBelt w)
    | none => (s.watchNoted w).unexpected (watchBelt w)) htarget :)

/-- A stage that is full takes no arrival. -/
theorem State.arrive_full {s : State} {w : Watch} (b : Book)
    (h : (w = .stagingEntry ∧ 4 ≤ s.stg.queue.length) ∨ (w = .pressEntry ∧ 3 ≤ s.press.queue.length) ∨
      (w = .jacket ∧ s.dlv.stop ≠ .empty)) : s.arrive w b = s := by
  rcases h with ⟨rfl, hfull⟩ | ⟨rfl, hfull⟩ | ⟨rfl, hfull⟩
  · exact if_neg (Nat.not_lt.mpr hfull)
  · exact if_neg (Nat.not_lt.mpr hfull)
  · show s.arriveJacket b = s
    unfold State.arriveJacket
    split
    · next hempty => exact absurd hempty hfull
    all_goals rfl

/-- An arrival at a watch point with room for it, but the outfeed. -/
theorem State.arrive_room {s : State} {w : Watch} {b : Book} (hb : s.book? b.slot = some b) :
    (w = .stagingEntry ∧ s.stg.queue.length < 4) ∨ w = .casing ∨
      (w = .pressEntry ∧ s.press.queue.length < 3) ∨ (w = .jacket ∧ s.dlv.stop = .empty) →
    ∃ c, (s.arrive w b).book? b.slot = some c ∧
      (b.movedTo (match w with
        | .stagingEntry => .staged
        | .casing => .casing
        | .pressEntry => .pressQueued
        | .jacket => .atJacket
        | .outfeed => .retired)).Decided c ∧
      (w = .stagingEntry → (s.arrive w b).stg.queue.getLast? = some b.slot ∧
        b.slot ∉ (s.arrive w b).table.transit) ∧
      (w = .casing → (s.arrive w b).stg.casing = (if s.active .b ∧ s.io.armed then
        .inCycle b.slot ⟨s.clock, s.cfg.casingTimeout⟩ else .cyclePending b.slot)) ∧
      (w = .pressEntry → (s.arrive w b).press.queue.getLast? = some b.slot ∧
        b.slot ∉ (s.arrive w b).table.pressApproach) ∧
      (w = .jacket → (s.arrive w b).dlv.stop.record? = some b.slot ∧
        b.slot ∉ (s.arrive w b).table.jacketApproach) := by
  rintro (⟨rfl, h⟩ | rfl | ⟨rfl, h⟩ | ⟨rfl, h⟩)
  · obtain ⟨c, hc, hdecided, hjoins⟩ := State.arriveStaging_spec hb h
    exact ⟨c, hc, hdecided, fun _ => hjoins, nofun, nofun, nofun⟩
  · obtain ⟨c, hc, hdecided, hcasing⟩ := State.arriveCasing_spec hb
    exact ⟨c, hc, hdecided, nofun, fun _ => hcasing, nofun, nofun⟩
  · obtain ⟨c, hc, hdecided, hjoins⟩ := State.arrivePress_spec hb h
    exact ⟨c, hc, hdecided, nofun, nofun, fun _ => hjoins, nofun⟩
  · obtain ⟨c, hc, hdecided, hjoins⟩ := State.arriveJacket_spec hb h
    exact ⟨c, hc, hdecided, nofun, nofun, nofun, fun _ => hjoins⟩

/-- Settles O40, arrival by arrival. -/
theorem watchPointArrival : Obligations.WatchPointArrival := by
  intro s w hm noted
  have hexec : exec (.watchPointArrival w) s =
      .next ((s.blocked (eyePoint (watchEye w))).watchEdge w) :=
    (exec_watchPointArrival s w).trans (congrArg _ (State.risingInput_input _ hm))
  rw [hexec]
  refine ⟨fun ht => by rw [State.watchEdge_none ht] <;> rfl, fun b target ht => ?_⟩
  have hhead := State.head?_of_target? ht
  have hb : noted.book? b.slot = some b := State.book?_of_head? hhead
  have hlife := State.life_of_head? hhead
  have hcfg : noted.cfg = s.cfg := rfl
  have hclock : noted.clock = s.clock := rfl
  have hactive : noted.active .b = s.active .b := rfl
  have harmed : noted.io.armed = s.io.armed := rfl
  rw [State.watchEdge_some ht]
  refine ⟨fun hw => by rw [hw] <;> rfl, fun hw hfull => ?_, fun hw hroom => ?_, fun hw hout l hl => ?_⟩
  · rw [if_pos hw]
    exact congrArg _ (State.arrive_full (s := noted) b hfull)
  · rw [if_pos hw]
    obtain ⟨c, hc, hdecided, hstaged, hcasing, hqueued, hstop⟩ :=
      State.arrive_room (s := noted) hb hroom
    obtain ⟨hposition, hlife, hfixed⟩ := hdecided.movedTo
    have hline : Line noted (noted.arrive w b) := line_arrive noted w b
    exact ⟨noted.arrive w b, c, rfl, hc, hposition, hlife, hfixed, hstaged, hcasing, hqueued, hstop,
      hline.clock.trans hclock, hline.cfg.trans hcfg, hline.link, hline.readers, hline.io⟩
  · subst hout
    rw [if_pos hw]
    obtain ⟨c, hc, hdecided, houtcomes, hmem⟩ := State.arriveOutfeed_spec hb hlife hl
    refine ⟨_, c, rfl, hc, hdecided.life, houtcomes, hmem, hdecided.retiredAt, ?_⟩
    rw [hdecided.outcome]
    cases l <;> rfl

end Sys2Proof.Machine
end

section
/-! SUPPORT. Records removed together, and TRACKING RESET (R46, R80, R154, §10.7). -/
namespace Sys2Proof.Machine

/-- Slots name their records. -/
theorem State.SlotsAccounted.mem_filter_slots {s : State} (h : s.SlotsAccounted) {p : Book → Bool}
    {b : Book} (hb : b ∈ s.table.books) :
    b.slot ∈ (s.table.books.filter p).map (·.slot) ↔ p b = true := by
  refine ⟨fun hm => ?_, fun hp => List.mem_map_of_mem (List.mem_filter.2 ⟨hb, hp⟩)⟩
  obtain ⟨c, hc, hslot⟩ := List.mem_map.1 hm
  obtain ⟨hmem, hp⟩ := List.mem_filter.1 hc
  have hbc := (hslot ▸ h.book?_of_mem hmem : s.book? b.slot = some c)
  cases (h.book?_of_mem hb).symm.trans hbc
  exact hp

/-- Live records removed together. -/
theorem gone_removeAll_filter {s : State} (h : s.SlotsAccounted) {p : Book → Bool}
    (hlive : ∀ b, p b = true → b.life ≠ .retired) :
    Gone .removed ((s.table.books.filter p).map (·.slot)) s
      (s.removeAll ((s.table.books.filter p).map (·.slot))) := by
  refine gone_removeAll (h.nodup.sublist (List.filter_sublist.map _)) fun r hr => ?_
  obtain ⟨b, hb, rfl⟩ := List.mem_map.1 hr
  obtain ⟨hmem, hp⟩ := List.mem_filter.1 hb
  exact ⟨b, h.book?_of_mem hmem, hlive b hp⟩

theorem State.liveSlots_eq (s : State) : s.liveSlots =
    (s.table.books.filter (fun b => decide (b.life ≠ .retired))).map (·.slot) := rfl

theorem State.resettable_iff (s : State) : s.resettable = true ↔
    ∀ z, (s.zoneState z = .stopped ∨ s.zoneState z = .faulted) ∧ s.inFlight z = false := by
  have hall (p : Zone → Prop) : (∀ z, p z) ↔ p .a ∧ p .b ∧ p .p ∧ p .c :=
    ⟨fun h => ⟨h _, h _, h _, h _⟩, fun ⟨ha, hb, hp, hc⟩ z => by cases z <;> assumption⟩
  unfold State.resettable State.anyInFlight
  rw [hall]
  simp only [State.inFlight, List.all_cons, List.all_nil, Bool.and_eq_true, decide_eq_true_eq,
    Bool.not_eq_true', Bool.or_eq_false_iff]
  tauto

/-- What TRACKING RESET leaves of a state whose live records have been removed. -/
def State.trackingCleared (s : State) : State :=
  { s with
    table := { s.table with
      lastLead := none
      transit := []
      pressApproach := []
      jacketApproach := []
      delivery := [] }
    trk := { s.trk with
      belts := ⟨(s.belt .a).trackingReset, (s.belt .b).trackingReset, (s.belt .c).trackingReset⟩
      opened := ⟨false, false, false, false, false⟩
      eyes := List.replicate 11 none }
    gauge := { s.gauge with current := none }
    stg := StagingUnit.initial
    press := { PressUnit.initial with period := s.cfg.pMin }
    dlv := DeliveryUnit.initial
    readers := { s.readers with heldCase := .empty, heldJacket := .empty }
    zones := ⟨s.zones.a.trackingReset, s.zones.b.trackingReset, s.zones.p.trackingReset,
      s.zones.c.trackingReset⟩ }

theorem State.trackingReset_eq (s : State) :
    s.trackingReset = (s.removeAll s.liveSlots).trackingCleared := rfl

theorem State.belt_trackingCleared (s : State) (z : Belt) :
    s.trackingCleared.belt z = (s.belt z).trackingReset := by cases z <;> rfl

theorem State.zones_trackingCleared (s : State) (z : Zone) :
    s.trackingCleared.zones.get z = (s.zones.get z).trackingReset := by cases z <;> rfl

/-- The records when the live ones have been removed. -/
theorem State.books_removeLive {s : State} (h : s.SlotsAccounted) :
    s.table.books.map (fun b => if b.slot ∈ s.liveSlots then b.asRetired .removed s.clock else b) =
      s.table.books.map (fun b => if b.life = .retired then b else b.asRetired .removed s.clock) := by
  refine List.map_congr_left fun b hb => ?_
  have hmem : b.slot ∈ s.liveSlots ↔ b.life ≠ .retired :=
    (h.mem_filter_slots hb).trans decide_eq_true_iff
  by_cases hl : b.life = .retired
  · rw [if_pos hl, if_neg fun hm => hmem.1 hm hl]
  · rw [if_neg hl, if_pos (hmem.2 hl)]

/-- Settles O27. -/
theorem trackingReset : Obligations.TrackingReset := by
  intro s hrx
  refine ⟨fun ⟨z, hz⟩ => exec_request (h := onTrackingReset) hrx rfl ?_, fun hs hall => ?_⟩
  · have hnot : s.resettable = false := Bool.eq_false_iff.2 fun h => by
      obtain ⟨hstate, hflight⟩ := (State.resettable_iff s).1 h z
      rcases hz with ⟨hstopped, hfaulted⟩ | hf
      · exact hstate.elim hstopped hfaulted
      · rw [hflight] at hf
        cases hf
    simp [onTrackingReset, noBody, hnot, State.refused]
  · have hreset : s.resettable = true := (State.resettable_iff s).2 hall
    have hgone : Gone .removed s.liveSlots s (s.removeAll s.liveSlots) :=
      gone_removeAll_filter hs fun b hb => of_decide_eq_true hb
    have hcount : s.liveCount =
        (s.table.books.filter (fun b => decide (b.life ≠ .retired))).length :=
      List.countP_eq_length_filter
    have heq : onTrackingReset [] s = (s.trackingReset, ⟨.ok, num 1 s.liveCount⟩) := by
      simp [onTrackingReset, noBody, hreset]
    rw [hcount, State.trackingReset_eq] at heq
    refine ⟨_, exec_request (h := onTrackingReset) hrx rfl heq, ?_⟩
    have hbooks := hgone.books.trans (State.books_removeLive hs)
    have hframe := hgone.frame
    have htable := hgone.table
    have hgauge := hgone.gauge
    generalize s.removeAll s.liveSlots = u at hbooks hframe htable hgauge ⊢
    have htrk : u.trk = s.trk := (congrArg State.trk hframe :)
    have hzones : u.zones = s.zones := (congrArg State.zones hframe :)
    have hcfg : u.cfg = s.cfg := (congrArg State.cfg hframe :)
    refine ⟨fun b hb => ?_, hbooks, ?_, ?_, rfl, rfl, rfl, rfl, rfl, fun z => ?_, rfl, rfl, ?_, rfl, rfl,
      ?_, ?_, fun z => ?_, ?_, ?_, ?_, ?_⟩
    · have hmem : b ∈ u.table.books := hb
      rw [hbooks] at hmem
      obtain ⟨c, -, rfl⟩ := List.mem_map.1 hmem
      split
      · assumption
      · rfl
    · exact (congrArg BookTable.outcomes htable :)
    · exact (congrArg BookTable.nextSeq htable :)
    · rw [State.belt_trackingCleared]
      show (u.trk.belts.get z).trackingReset = _
      rw [htrk]
      rfl
    · exact congrArg (fun g : GaugeUnit => { g with current := none }) hgauge
    · exact congrArg (fun c : Cfg => { PressUnit.initial with period := c.pMin }) hcfg
    · exact (congrArg (fun v : State =>
        { v.readers with heldCase := .empty, heldJacket := .empty }) hframe :)
    · rw [State.zones_trackingCleared, hzones]
      rfl
    · exact (congrArg State.admitSet hframe :)
    · exact hcfg
    · exact (congrArg State.io hframe :)
    · exact (congrArg State.clock hframe :)

end Sys2Proof.Machine
end

section
/-! SUPPORT. PURGE (R154). -/
namespace Sys2Proof.Machine

theorem JacketStop.record?_eq_none {x : JacketStop} : x.record? = none ↔ x = .empty := by
  cases x <;> simp [JacketStop.record?]

theorem Book.inZone_of_life {b c : Book} (h : c.life = b.life) (z : Zone) : c.inZone z = b.inZone z := by
  cases z <;> simp only [Book.inZone, h]

theorem Book.live_of_inZone {b : Book} {z : Zone} (h : b.inZone z = true) : b.life ≠ .retired := by
  intro hl
  cases z <;> simp [Book.inZone, hl] at h

/-- Decisions leave every record in its state. -/
theorem Decides.exists_life_eq {s t : State} (h : Decides s t) {c : Book} (hc : c ∈ t.table.books) :
    ∃ b ∈ s.table.books, c.life = b.life := by
  have hlives : s.table.books.map (·.life) = t.table.books.map (·.life) := by
    rw [← List.forall₂_eq_eq_eq, List.forall₂_map_left_iff, List.forall₂_map_right_iff]
    exact h.books.imp fun _ _ hdecided => hdecided.life.symm
  obtain ⟨b, hb, hlife⟩ := List.mem_map.1 (hlives ▸ List.mem_map_of_mem hc)
  exact ⟨b, hb, hlife.symm⟩

/-- A zone emptied of its records: its queues, held scan and window flags. -/
def State.zoneEmptied (s : State) (z : Zone) : State := (s.emptyZone z).closeWatches z

theorem State.purge_eq (s : State) (z : Zone) :
    s.purge z = ((s.removeAll (s.zoneSlots z)).zoneEmptied z).follow := rfl

theorem State.purgeable_iff (s : State) (z : Zone) : s.purgeable z = true ↔
    (s.zoneState z = .stopped ∨ s.zoneState z = .faulted) ∧ s.inFlight z = false := by
  unfold State.purgeable
  rw [Bool.and_eq_true, decide_eq_true_eq, Bool.not_eq_true']

theorem onPurge_eq (s : State) (z : Zone) : onPurge [BitVec.ofNat 8 (zoneCode z)] s =
    if s.purgeable z then
      (s.purge z, ⟨.ok, num 1 (s.zoneSlots z).length ++ optNum 1 (s.purgedEntries z)⟩)
    else s.refused .wrongState := oneZone_eq _ z s

/-- What emptying a zone leaves alone. -/
theorem State.zoneEmptied_frame (s : State) (z : Zone) : { s.zoneEmptied z with
    trk := s.trk, stg := s.stg, dlv := s.dlv, readers := s.readers } = s := by
  cases z <;> rfl

theorem State.zoneEmptied_readers (s : State) {z : Zone} (h : z = .a ∨ z = .p) :
    (s.zoneEmptied z).readers = s.readers := by
  rcases h with rfl | rfl <;> rfl

section
variable {s u t : State} {z : Zone}

/-- The records after a purge: none in its zone. -/
theorem Gone.inZone_eq_false (hs : s.SlotsAccounted) (h : Gone .removed (s.zoneSlots z) s u) :
    ∀ b ∈ u.table.books, b.inZone z = false := by
  intro b hb
  rw [h.books] at hb
  obtain ⟨c, hc, rfl⟩ := List.mem_map.1 hb
  split
  · cases z <;> rfl
  · next hmem => exact Bool.eq_false_iff.2 fun hz => hmem ((hs.mem_filter_slots hc).2 hz)

theorem Decides.inZone_eq_false (h : Decides u t) (hu : ∀ b ∈ u.table.books, b.inZone z = false) :
    ∀ b ∈ t.table.books, b.inZone z = false := by
  intro c hc
  obtain ⟨b, hb, hlife⟩ := h.exists_life_eq hc
  exact (Book.inZone_of_life hlife z).trans (hu b hb)

end

/-- Settles O26. -/
theorem purge : Obligations.Purge := by
  intro s z hrx body
  have hbody := onPurge_eq s z
  refine ⟨fun hz => exec_request (h := onPurge) hrx rfl (hbody.trans (if_neg fun h => ?_)),
    fun hs hstate hflight => ?_⟩
  · obtain ⟨hst, hfl⟩ := (State.purgeable_iff s z).1 h
    rcases hz with ⟨hstopped, hfaulted⟩ | hf
    · exact hst.elim hstopped hfaulted
    · rw [hfl] at hf
      cases hf
  · have hgone : Gone .removed (s.zoneSlots z) s (s.removeAll (s.zoneSlots z)) :=
      gone_removeAll_filter hs fun b hb => Book.live_of_inZone hb
    rw [if_pos ((State.purgeable_iff s z).2 ⟨hstate, hflight⟩), State.purge_eq] at hbody
    have hentries : ∀ y, s.purgedEntries y = match y with
        | .b => some s.stg.cases.length
        | .c => some s.dlv.jackets.length
        | .a | .p => none := fun y => by cases y <;> rfl
    rw [hentries z, State.zoneSlots, List.length_map] at hbody
    refine ⟨((s.removeAll (s.zoneSlots z)).zoneEmptied z).follow,
      exec_request (h := onPurge) hrx rfl hbody, ?_⟩
    clear hbody hentries
    generalize s.removeAll (s.zoneSlots z) = u at hgone ⊢
    have hframe := u.zoneEmptied_frame z
    have hdec := decides_follow (u.zoneEmptied z)
    have hstores := stores_follow (u.zoneEmptied z)
    have htable : (u.zoneEmptied z).table = u.table := (congrArg State.table hframe :)
    have hpress : (u.zoneEmptied z).press = u.press := (congrArg State.press hframe :)
    have hzones : (u.zoneEmptied z).zones = s.zones :=
      (congrArg State.zones hframe).trans (congrArg State.zones hgone.frame :)
    have hreads (r : Nat) (b : Book) (hb : s.book? r = some b) : (u.zoneEmptied z).book? r =
        some (if r ∈ s.zoneSlots z then b.asRetired .removed s.clock else b) := by
      unfold State.book?
      rw [htable]
      exact (hgone.book? r).trans (congrArg (Option.map _) hb)
    have hreaders : u.readers = s.readers := (congrArg State.readers hgone.frame :)
    have hstopped : (u.zoneEmptied z).zoneState z ≠ .draining := by
      show ((u.zoneEmptied z).zones.get z).state ≠ _
      rw [hzones]
      intro hd
      rcases hstate with h | h <;> cases h.symm.trans hd
    refine ⟨hdec.inZone_eq_false ?_, ?_, fun r b hb hz => ?_, fun r b hb hz => ?_, ?_, ?_, ?_, fun hz => ?_,
      ?_, ?_, ?_, ?_, ?_, ?_, ?_, ?_⟩
    · rw [htable]
      exact hgone.inZone_eq_false hs
    · rw [hdec.outcomes, htable, hgone.table]
      rfl
    · have hmem : r ∈ s.zoneSlots z :=
        List.mem_map.2 ⟨b, List.mem_filter.2 ⟨State.mem_of_book? hb, hz⟩, State.slot_of_book? hb⟩
      obtain ⟨c, hc, hdecided⟩ := hdec.book?_eq ((hreads r b hb).trans (congrArg some (if_pos hmem)))
      exact ⟨c, hc, hdecided.outcome, hdecided.lifeAtRetirement, hdecided.retiredAt⟩
    · have hmem : r ∉ s.zoneSlots z := fun hm => by
        rw [← State.slot_of_book? hb] at hm
        rw [(hs.mem_filter_slots (State.mem_of_book? hb)).1 hm] at hz
        cases hz
      exact hdec.book?_eq ((hreads r b hb).trans (congrArg some (if_neg hmem)))
    · rw [hdec.zone_eq hstopped, hzones]
    · rintro rfl
      refine ⟨List.length_eq_zero_iff.1 (Nat.le_zero.1 hstores.cases), hdec.overdue,
        CasingSide.record?_eq_none.1 hdec.casing, hdec.readers.trans ?_⟩
      exact congrArg (fun rd : Readers => { rd with heldCase := .empty }) hreaders
    · rintro rfl
      refine ⟨List.length_eq_zero_iff.1 (Nat.le_zero.1 hstores.jackets), hdec.jacketOverdue,
        JacketStop.record?_eq_none.1 hdec.stop, hdec.gate, hdec.readers.trans ?_⟩
      exact congrArg (fun rd : Readers => { rd with heldJacket := .empty }) hreaders
    · rw [hdec.readers, State.zoneEmptied_readers u hz, hreaders]
    · rw [show _ = _ from (congrArg BookTable.nextSeq hdec.table :), htable, hgone.table]
    · rw [show _ = _ from (congrArg BookTable.lastLead hdec.table :), htable, hgone.table]
    · rw [show _ = _ from (congrArg PressUnit.rotation hdec.press :), hpress, hgone.press]
    · rw [show _ = _ from (congrArg PressUnit.period hdec.press :), hpress, hgone.press]
    · exact hdec.io.trans ((congrArg State.io hframe).trans (congrArg State.io hgone.frame :))
    · exact hdec.cfg.trans ((congrArg State.cfg hframe).trans (congrArg State.cfg hgone.frame :))
    · exact hdec.admitSet.trans
        ((congrArg State.admitSet hframe).trans (congrArg State.admitSet hgone.frame :))
    · exact hdec.clock.trans ((congrArg State.clock hframe).trans (congrArg State.clock hgone.frame :))

end Sys2Proof.Machine
end

section
/-! SUPPORT. The trip, and the guard that opens and closes (R114, R130, R145, R155, R156). -/
namespace Sys2Proof.Machine

/-- The order whose case is being ejected. -/
def State.ejectingCase (s : State) : Option Nat := match s.stg.side, s.stg.cases with
  | .ejectInFlight _, ⟨.ident i, _⟩ :: _ => some i.order
  | _, _ => none

/-- The order whose jacket is being ejected. -/
def State.ejectingJacket (s : State) : Option Nat := match s.dlv.stop, s.dlv.jackets with
  | .ejectInFlight _ _, .ident i :: _ => some i.order
  | _, _ => none

def State.trippedCases (s : State) : List CaseEntry := match s.stg.side, s.stg.cases with
  | .forwardInFlight _, e :: rest => { e with reserved := false } :: rest
  | .ejectInFlight _, _ :: rest => rest
  | _, l => l

def State.trippedJackets (s : State) : List Identity := match s.dlv.stop, s.dlv.jackets with
  | .ejectInFlight _ _, _ :: rest => rest
  | _, l => l

def CasingSide.tripped : CasingSide → CasingSide
  | .inCycle r _ => .cased r
  | .releasing r _ => .cased r
  | c => c

def JacketStop.tripped : JacketStop → JacketStop
  | .ejectInFlight r _ => .waiting r none
  | .waiting r _ => .waiting r none
  | .inCycle r _ => .done r
  | .releasing r _ => .done r
  | x => x

/-- One case more ejected, if `o` is the order named. -/
def Order.caseEjected (o : Order) (now : Clock) (n : Option Nat) : Order :=
  { o with counters := { o.counters with
      casesEjected := if n = some o.tmpl.order then
        countUp o.tmpl.order 7 now o.counters.casesEjected else o.counters.casesEjected } }

def Order.jacketEjected (o : Order) (now : Clock) (n : Option Nat) : Order :=
  { o with counters := { o.counters with
      jacketsEjected := if n = some o.tmpl.order then
        countUp o.tmpl.order 8 now o.counters.jacketsEjected else o.counters.jacketsEjected } }

theorem State.orders_countCase (s : State) (x : Ident) : (s.countCaseEjection (.ident x)).orders =
    s.orders.map (·.caseEjected s.clock (some x.order)) := by
  rw [State.countCaseEjection_eq]
  refine List.map_congr_left fun o _ => ?_
  unfold Order.caseEjected
  by_cases h : o.tmpl.order = x.order
  · simp [h]
  · simp [h, Ne.symm h]

theorem State.orders_countJacket (s : State) (x : Ident) :
    (s.countJacketEjection (.ident x)).orders =
      s.orders.map (·.jacketEjected s.clock (some x.order)) := by
  rw [State.countJacketEjection_eq]
  refine List.map_congr_left fun o _ => ?_
  unfold Order.jacketEjected
  by_cases h : o.tmpl.order = x.order
  · simp [h]
  · simp [h, Ne.symm h]

theorem map_caseEjected_none (now : Clock) (l : List Order) : l.map (·.caseEjected now none) = l :=
  (List.map_congr_left fun _ _ => rfl).trans l.map_id

theorem map_jacketEjected_none (now : Clock) (l : List Order) : l.map (·.jacketEjected now none) = l :=
  (List.map_congr_left fun _ _ => rfl).trans l.map_id

theorem State.tripStagingSide_eq (s : State) : s.tripStagingSide = { s with
    orders := s.orders.map (·.caseEjected s.clock s.ejectingCase)
    stg := { s.stg with side := .idle .none, cases := s.trippedCases } } := by
  unfold State.tripStagingSide State.ejectingCase State.trippedCases
  cases hside : s.stg.side with
  | idle w | rejectInFlight t => 
    cases hcases : s.stg.cases <;> simp only [map_caseEjected_none, State.setSide, hcases]
  | forwardInFlight t =>
    cases hcases : s.stg.cases <;>
      simp only [map_caseEjected_none, State.unreserve, markHead, hcases, State.setSide]
  | ejectInFlight t =>
    cases hcases : s.stg.cases with
    | nil => simp only [map_caseEjected_none, State.removeEjectedCase, hcases, State.setSide]
    | cons e rest =>
      dsimp only
      rw [State.removeEjectedCase_eq hcases]
      rcases e with ⟨i, reserved⟩
      cases i with
      | ident x =>
        dsimp only
        rw [← State.orders_countCase]
        rfl
      | unreadable | conflict => simp only [map_caseEjected_none] <;> rfl

/-- What the trip leaves of the jacket stop, but the records. -/
theorem State.tripDelivery_eq (s : State) : s.tripDelivery = { s with
    orders := s.orders.map (·.jacketEjected s.clock s.ejectingJacket)
    table := s.tripDelivery.table
    dlv := { s.dlv with stop := s.dlv.stop.tripped, jackets := s.trippedJackets } } := by
  unfold State.tripDelivery State.ejectingJacket State.trippedJackets
  cases hstop : s.dlv.stop with
  | empty | done r =>
    cases hjackets : s.dlv.jackets <;>
      simp only [map_jacketEjected_none, JacketStop.tripped, ← hstop, ← hjackets]
  | waiting r t | releasing r t =>
    cases hjackets : s.dlv.jackets <;>
      simp only [map_jacketEjected_none, State.setStop, JacketStop.tripped, hjackets]
  | inCycle r t =>
    cases hjackets : s.dlv.jackets <;>
      simp only [map_jacketEjected_none, State.setStop, State.setJacketResult, State.setReason,
        State.updBook, JacketStop.tripped, hjackets]
  | ejectInFlight r t =>
    cases hjackets : s.dlv.jackets with
    | nil => simp only [map_jacketEjected_none, State.removeEjectedJacket, hjackets, State.setStop,
        JacketStop.tripped]
    | cons e rest =>
      dsimp only
      rw [State.removeEjectedJacket_eq hjackets]
      cases e with
      | ident x =>
        dsimp only
        rw [← State.orders_countJacket]
        rfl
      | unreadable | conflict => simp only [map_jacketEjected_none] <;> rfl

/-- What the trip leaves of the casing section, but the records. -/
theorem State.tripCasing_eq (s : State) : s.tripCasing = { s with
    table := s.tripCasing.table
    stg := { s.stg with casing := s.stg.casing.tripped } } := by
  unfold State.tripCasing
  cases hcasing : s.stg.casing <;>
    simp only [State.setCasing, State.setReason, State.updBook, CasingSide.tripped, ← hcasing]

theorem decides_tripCasing (s : State) : Decides s s.tripCasing := by
  unfold State.tripCasing
  split
  · next r t h =>
    exact (decides_casing (s.setReason r .suspect) (.cased r) s.stg.cases
      (by rw [show (s.setReason r .suspect).stg = s.stg from rfl, h]; rfl)).after
      (decides_setReason s r .suspect)
  · next r t h => exact decides_casing s (.cased r) s.stg.cases (by rw [h]; rfl)
  all_goals exact .refl s

theorem decides_tripDelivery (s : State) :
    Decides { s with orders := s.tripDelivery.orders } s.tripDelivery := by
  unfold State.tripDelivery
  cases hstop : s.dlv.stop with
  | empty | done r => exact .refl s
  | waiting r t | releasing r t => exact decides_stop s _ s.dlv.jackets (by rw [hstop]; rfl)
  | inCycle r t =>
    exact (decides_stop ((s.setReason r .suspect).setJacketResult r .unjacketed) (.done r) s.dlv.jackets
      (by rw [show ((s.setReason r .suspect).setJacketResult r .unjacketed).dlv = s.dlv from rfl, hstop]
          rfl)).after
      ((decides_setJacketResult _ r .unjacketed).after (decides_setReason s r .suspect))
  | ejectInFlight r t =>
    cases hjackets : s.dlv.jackets with
    | nil =>
      rw [State.removeEjectedJacket, hjackets]
      exact decides_stop s _ s.dlv.jackets (by rw [hstop]; rfl)
    | cons e rest =>
      rw [State.removeEjectedJacket_eq hjackets]
      have hstopped := decides_stop { s with orders := (s.countJacketEjection e).orders }
        (.waiting r none) rest (by rw [hstop]; rfl)
      cases e <;> exact hstopped

/-- The record with the reason SUSPECT, unless it carries one. -/
def Book.suspected (b : Book) : Book := { b with reason := some (b.reason.getD .suspect) }

/-- A live record as the casing section trips: its reason is set if the record is in its cycle. -/
theorem State.book?_tripCasing {s : State} {r : Nat} {b : Book} (hb : s.book? r = some b)
    (hlive : b.life ≠ .retired) :
    (s.tripCasing.book? r = some b ∧ ∀ t, s.stg.casing ≠ .inCycle r t) ∨
      s.tripCasing.book? r = some b.suspected := by
  unfold State.tripCasing
  split
  · next q t h =>
    by_cases hq : r = q
    · subst hq
      exact .inr (book?_setReason (s := s) .suspect hb (decide_eq_true hlive))
    · refine .inl ⟨?_, fun t' ht => hq ?_⟩
      · exact (s.book?_updBook_ne q r _ (fun _ => by split <;> rfl) hq).trans hb
      · cases h.symm.trans ht
        rfl
  all_goals next h => exact .inl ⟨hb, fun t ht => nomatch h.symm.trans ht⟩

/-- A live record in its jacket cycle as the delivery unit trips. -/
theorem State.book?_tripDelivery {s : State} {r : Nat} {timer : Timer} {b : Book}
    (hstop : s.dlv.stop = .inCycle r timer) (hb : s.book? r = some b) (hlive : b.life ≠ .retired) :
    s.tripDelivery.book? r = some { b.suspected with jacketResult := some .unjacketed } := by
  have heq : s.tripDelivery =
      ((s.setReason r .suspect).setJacketResult r .unjacketed).setStop (.done r) := by
    simp only [State.tripDelivery, hstop]
  rw [heq]
  exact (State.book?_updBook_self (s.setReason r .suspect) r
    (fun c => { c with jacketResult := some .unjacketed }) fun _ => rfl).trans
    (congrArg (Option.map _) (book?_setReason (s := s) .suspect hb (decide_eq_true hlive)))

/-- A zone trips: the waits of its unit stop. -/
theorem State.setZone_tripped (s : State) (z : Zone) : s.setZone z .tripped = { s with
    zones := s.zones.set z { s.zones.get z with state := .tripped }
    stg := { s.stg with side := if z = .b then s.stg.side.stopTimers else s.stg.side }
    dlv := { s.dlv with stop := if z = .c then s.dlv.stop.stopTimer else s.dlv.stop } } := by
  cases z with
  | a | p | b | c => rfl

theorem State.allTripped_eq (s : State) : s.allTripped = { s with
    io := { s.io with armed := false }
    zones := s.allTripped.zones
    stg := { s.stg with side := s.stg.side.stopTimers }
    dlv := { s.dlv with stop := s.dlv.stop.stopTimer } } := by
  unfold State.allTripped
  simp only [State.setZone_tripped, reduceCtorEq, if_false, if_true]

theorem Decides.withOrders {s t : State} (h : Decides s t) (os : List Order) :
    Decides { s with orders := os } { t with orders := os } := { h with orders := rfl }

theorem JacketStop.tripped_stopTimer (x : JacketStop) : x.stopTimer.tripped = x.tripped := by
  cases x <;> rfl

theorem State.ejectingCase_allTripped (s : State) : s.allTripped.ejectingCase = s.ejectingCase := by
  rw [State.allTripped_eq]
  unfold State.ejectingCase
  cases s.stg.side <;> simp only [StagingSide.stopTimers]

theorem State.trippedCases_allTripped (s : State) : s.allTripped.trippedCases = s.trippedCases := by
  rw [State.allTripped_eq]
  unfold State.trippedCases
  cases s.stg.side <;> simp only [StagingSide.stopTimers]

theorem State.ejectingJacket_allTripped (s : State) :
    s.allTripped.ejectingJacket = s.ejectingJacket := by
  rw [State.allTripped_eq]
  unfold State.ejectingJacket
  cases s.dlv.stop <;> simp only [JacketStop.stopTimer]

theorem State.trippedJackets_allTripped (s : State) :
    s.allTripped.trippedJackets = s.trippedJackets := by
  rw [State.allTripped_eq]
  unfold State.trippedJackets
  cases s.dlv.stop <;> simp only [JacketStop.stopTimer]

/-- The operations in flight of staging and casing, and of the press, as the trip ends them. -/
def State.tripUpstream (s : State) : State := s.tripStagingSide.tripCasing.tripPress

theorem State.trip_upstream (s : State) : s.trip = s.allTripped.tripUpstream.tripDelivery.bpTests := rfl

/-- What the trip leaves of the staging and casing unit and the press, but the records. -/
theorem State.tripUpstream_eq (s : State) : s.tripUpstream = { s with
    orders := s.orders.map (·.caseEjected s.clock s.ejectingCase)
    table := s.tripUpstream.table
    stg := { s.stg with
      side := .idle .none, cases := s.trippedCases, casing := s.stg.casing.tripped }
    press := { s.press with index := none } } := by
  unfold State.tripUpstream
  rw [State.tripStagingSide_eq, State.tripCasing_eq]
  rfl

theorem decides_tripUpstream (s : State) :
    Decides { s with orders := s.orders.map (·.caseEjected s.clock s.ejectingCase) }
      s.tripUpstream := by
  have hpress (u : State) : Decides u u.tripPress := by
    constructor <;> intros <;> first | rfl | exact .inl rfl | exact decided_refl _
  refine (hpress _).after ((decides_tripCasing _).after ?_)
  rw [State.tripStagingSide_eq]
  exact decides_staging { s with orders := s.orders.map (·.caseEjected s.clock s.ejectingCase) }
    (.idle .none) s.trippedCases

theorem State.tripUpstream_dlv (s : State) : s.tripUpstream.dlv = s.dlv := by
  rw [State.tripUpstream_eq]

theorem State.ejectingJacket_tripUpstream (s : State) :
    s.tripUpstream.ejectingJacket = s.ejectingJacket := by
  unfold State.ejectingJacket
  rw [State.tripUpstream_dlv]

theorem State.trippedJackets_tripUpstream (s : State) :
    s.tripUpstream.trippedJackets = s.trippedJackets := by
  unfold State.trippedJackets
  rw [State.tripUpstream_dlv]

/-- The orders, with the ejections that the trip ended. -/
def State.trippedOrders (s : State) : List Order :=
  (s.orders.map (·.caseEjected s.clock s.ejectingCase)).map (·.jacketEjected s.clock s.ejectingJacket)

theorem State.trippedOrders_allTripped (s : State) : s.allTripped.trippedOrders = s.trippedOrders := by
  unfold State.trippedOrders
  rw [State.ejectingCase_allTripped, State.ejectingJacket_allTripped, State.allTripped_eq]

theorem State.tripDelivery_orders (s : State) :
    s.tripUpstream.tripDelivery.orders = s.trippedOrders := by
  rw [State.tripDelivery_eq]
  dsimp only
  rw [State.ejectingJacket_tripUpstream, State.tripUpstream_eq]
  rfl

/-- All the trip does, from the state with its zones tripped. -/
theorem State.trip_decides (s : State) : Decides { s.allTripped with orders := s.trippedOrders } s.trip := by
  have hup := (decides_tripUpstream s.allTripped).withOrders s.trippedOrders
  have hdown := decides_tripDelivery s.allTripped.tripUpstream
  rw [State.tripDelivery_orders, State.trippedOrders_allTripped] at hdown
  rw [State.trip_upstream]
  exact (decides_bpTests _).after (hdown.after hup)

/-- What the trip leaves of the units, but the records. -/
theorem State.trip_stg (s : State) : s.trip.stg = { s.stg with
    side := .idle .none, cases := s.trippedCases, casing := s.stg.casing.tripped } := by
  rw [State.trip_upstream, State.bpTests_stg, State.tripDelivery_eq]
  dsimp only
  rw [State.tripUpstream_eq, State.trippedCases_allTripped, State.allTripped_eq]

theorem State.trip_press (s : State) : s.trip.press = { s.press with index := none } := by
  rw [State.trip_upstream, State.bpTests_press, State.tripDelivery_eq]
  dsimp only
  rw [State.tripUpstream_eq, State.allTripped_eq]

theorem State.trip_dlv (s : State) : s.trip.dlv = { s.dlv with
    stop := s.dlv.stop.tripped, jackets := s.trippedJackets } := by
  rw [State.trip_upstream, State.bpTests_dlv, State.tripDelivery_eq]
  dsimp only
  rw [State.trippedJackets_tripUpstream, State.trippedJackets_allTripped, State.tripUpstream_dlv,
    State.allTripped_eq, JacketStop.tripped_stopTimer]

theorem State.book?_allTripped (s : State) (r : Nat) : s.allTripped.book? r = s.book? r := by
  rw [State.allTripped_eq] <;> rfl

theorem State.book?_tripUpstream {s : State} {r : Nat} {b : Book} (hb : s.book? r = some b)
    (hlive : b.life ≠ .retired) :
    (s.tripUpstream.book? r = some b ∧ ∀ t, s.stg.casing ≠ .inCycle r t) ∨
      s.tripUpstream.book? r = some b.suspected := by
  have hside : s.tripStagingSide.book? r = some b := by
    rw [State.tripStagingSide_eq]
    exact hb
  have hcasing : s.tripStagingSide.stg.casing = s.stg.casing := by rw [State.tripStagingSide_eq]
  have h := State.book?_tripCasing hside hlive
  rw [hcasing] at h
  exact h

/-- A live record in its casing cycle gets the reason SUSPECT. -/
theorem State.trip_inCycle {s : State} {r : Nat} {timer : Timer} {b : Book}
    (hcasing : s.stg.casing = .inCycle r timer) (hb : s.book? r = some b) (hlive : b.life ≠ .retired) :
    ∃ c, s.trip.book? r = some c ∧ c.reason = some (b.reason.getD .suspect) := by
  have hsuspected : s.allTripped.tripUpstream.book? r = some b.suspected := by
    have hx : s.allTripped.stg.casing = .inCycle r timer := by rw [State.allTripped_eq]; exact hcasing
    rcases State.book?_tripUpstream ((s.book?_allTripped r).trans hb) hlive with ⟨-, hno⟩ | h
    · exact absurd hx (hno timer)
    · exact h
  have hdec := (decides_bpTests _).after (decides_tripDelivery s.allTripped.tripUpstream)
  obtain ⟨c, hc, hdecided⟩ := hdec.book?_eq hsuspected
  exact ⟨c, hc, hdecided.reason _ rfl⟩

theorem State.trip_inJacketCycle {s : State} {r : Nat} {timer : Timer} {b : Book}
    (hstop : s.dlv.stop = .inCycle r timer) (hb : s.book? r = some b) (hlive : b.life ≠ .retired) :
    ∃ c, s.trip.book? r = some c ∧ c.reason = some (b.reason.getD .suspect) ∧
      c.jacketResult = some .unjacketed := by
  have hx : s.allTripped.tripUpstream.dlv.stop = .inCycle r timer := by
    rw [State.tripUpstream_dlv, State.allTripped_eq]
    exact congrArg JacketStop.stopTimer hstop
  have hread : s.trip.book? r = s.allTripped.tripUpstream.tripDelivery.book? r := by
    rw [State.trip_upstream, State.book?, State.bpTests_table] <;> rfl
  rw [hread]
  rcases State.book?_tripUpstream ((s.book?_allTripped r).trans hb) hlive with ⟨hbook, -⟩ | hbook
  · exact ⟨_, State.book?_tripDelivery hx hbook hlive, rfl, rfl⟩
  · exact ⟨_, State.book?_tripDelivery hx hbook hlive, rfl, rfl⟩

/-- The level of a point that stands in the table. -/
theorem State.reads_setLevel {s : State} {n : Nat} (high : Bool) (hn : n - 1 < s.io.points.length) :
    (s.setLevel n high).reads n = ({ s.point n with high := high } : Point).reading := by
  unfold State.reads State.setLevel
  rw [State.point_setPoint_same, if_pos hn]

theorem State.driven_of_disarmed {s : State} {n : Nat} (h : s.io.armed = false)
    (hn : isActuator n = true) : s.driven n = false := by
  unfold State.driven
  rw [h, hn]
  simp

/-- Settles O46. -/
theorem guardOpensAndCloses : Obligations.GuardOpensAndCloses := by
  intro s hlen hm caseOf jacketOf
  have hn : 27 - 1 < s.io.points.length := by rw [hlen]; decide
  have hopens : exec .guardOpens s = .next (s.cleared 27).refreshGuard :=
    congrArg Host.Outcome.next (if_pos hm)
  have hreads : (s.cleared 27).reads 27 = false := by
    rw [State.cleared, State.reads_setLevel _ hn]
    unfold Point.reading activeLevel
    cases (s.point 27).polarity <;> simp
  have hblocked : (s.blocked 27).reads 27 = true := by
    rw [State.blocked, State.reads_setLevel _ hn]
    unfold Point.reading activeLevel
    dsimp only
    rw [hm]
    cases (s.point 27).polarity <;> rfl
  have hcaseOf : caseOf = s.ejectingCase := rfl
  have hjacketOf : jacketOf = s.ejectingJacket := rfl
  clear_value caseOf jacketOf
  subst hcaseOf hjacketOf
  refine ⟨fun hopen => ?_, ?_, fun hclosed => ?_⟩
  · have hguard : (s.cleared 27).io.guardClosed = false := hopen
    rw [hopens, State.refreshGuard_eq, hguard, Bool.false_and, if_neg Bool.false_ne_true,
      State.takeGuard, hreads, ← hguard]
  · rw [show exec .guardCloses s = .next (s.blocked 27).refreshGuard from
      congrArg Host.Outcome.next (if_pos hm), State.refreshGuard_eq, hblocked, Bool.not_true,
      Bool.and_false, if_neg Bool.false_ne_true, State.takeGuard, hblocked]
  · have hguard : (s.cleared 27).io.guardClosed = true := hclosed
    let v := (s.cleared 27).takeGuard
    have htrip : exec .guardOpens s = .next v.trip := by
      rw [hopens, State.refreshGuard_eq, hreads, hguard]
      rfl
    have hio : v.trip.io = { v.io with armed := false } := v.trip_io
    have harmed : v.trip.io.armed = false := by rw [hio]
    have hdec := v.trip_decides
    rw [State.allTripped_eq] at hdec
    refine ⟨v.trip, htrip, ?_, harmed, fun n hn => State.driven_of_disarmed harmed hn,
      fun z => v.trip_zones z, ?_, ?_, ?_, ?_, ?_, v.trip_press, ?_, ?_, hdec.orders.trans ?_, hdec.gate,
      hdec.jacketOverdue, fun r timer b hcasing hb hlive => v.trip_inCycle hcasing hb hlive,
      fun r timer b hstop hb hlive => v.trip_inJacketCycle hstop hb hlive, hdec.table, hdec.belts,
      hdec.gauge, hdec.readers, hdec.admitSet, hdec.cfg, hdec.clock, hdec.link⟩
    · rw [hio]
      exact hreads
    · rw [v.trip_stg]
    · rw [v.trip_stg] <;> rfl
    · rw [v.trip_stg] <;> rfl
    · rw [v.trip_stg] <;> rfl
    · rw [v.trip_stg] <;> rfl
    · rw [v.trip_dlv] <;> rfl
    · rw [v.trip_dlv] <;> rfl
    · exact List.map_map

end Sys2Proof.Machine
end

section
/-! SUPPORT. The record that is gauged: what completes it, and what its read window gives it (R25 to
R28, R82, R84 to R88). -/
namespace Sys2Proof.Machine

/-! ### The end of gauging -/

/-- The verdict, where the record is bound. -/
def Book.verdictRun (b : Book) (limit : Nat) : Book := match b.binding, b.tmpl with
  | some .bound, some k => if b.live then b.judged k limit else b
  | _, _ => b

/-- A record whose gauging ends. -/
def Book.finished (b : Book) (limit : Nat) : Book :=
  let c := b.withThickness.verdictRun limit
  if c.life = .gauging then { c with life := .toStaging } else c

theorem Book.judged_frame (b : Book) (k : Template) (limit : Nat) :
    { b.judged k limit with sr := b.sr, verdict := b.verdict, reason := b.reason } = b := by
  unfold Book.judged
  split
  · split
    · rfl
    · split
      · rfl
      · split <;> rfl
  · rfl

theorem Book.verdictRun_frame (b : Book) (limit : Nat) :
    { b.verdictRun limit with sr := b.sr, verdict := b.verdict, reason := b.reason } = b := by
  unfold Book.verdictRun
  split
  · split <;> [exact b.judged_frame _ _; rfl]
  · rfl

theorem Book.verdictRun_of_unbound {b : Book} (h : b.binding ≠ some .bound) (limit : Nat) :
    b.verdictRun limit = b := by
  unfold Book.verdictRun
  split
  · next hbound _ => exact absurd hbound h
  · rfl

theorem Book.withThickness_frame (b : Book) :
    { b.withThickness with thickness := b.thickness, spread := b.spread } = b := by
  unfold Book.withThickness
  dsimp only
  split <;> rfl

theorem Book.thickness_withThickness {b : Book} (h : 3 ≤ (validSamples b.samples).length) :
    b.withThickness.thickness = some (meanOf (validSamples b.samples)) := by
  unfold Book.withThickness
  rw [if_pos h]

/-- What the end of gauging leaves alone. -/
theorem Book.finished_frame (b : Book) (limit : Nat) :
    { b.finished limit with thickness := b.thickness, spread := b.spread, sr := b.sr
                            verdict := b.verdict, reason := b.reason, life := b.life } = b := by
  have hrun := b.withThickness.verdictRun_frame limit
  have hmeasured := b.withThickness_frame
  unfold Book.finished
  dsimp only
  generalize b.withThickness.verdictRun limit = c at hrun ⊢
  have hc := (congrArg (fun d : Book => { d with
    thickness := b.thickness, spread := b.spread, reason := b.reason, sr := b.sr
    verdict := b.verdict, life := b.life }) hrun).trans
    (congrArg (fun d : Book => { d with
      reason := b.reason, sr := b.sr, verdict := b.verdict, life := b.life }) hmeasured :)
  split <;> exact hc

section
variable {b : Book} {limit : Nat}

theorem Book.finished_slot : (b.finished limit).slot = b.slot :=
  (congrArg Book.slot (b.finished_frame limit) :)
theorem Book.finished_ident : (b.finished limit).ident = b.ident :=
  (congrArg Book.ident (b.finished_frame limit) :)
theorem Book.finished_binding : (b.finished limit).binding = b.binding :=
  (congrArg Book.binding (b.finished_frame limit) :)
theorem Book.finished_badRead : (b.finished limit).badRead = b.badRead :=
  (congrArg Book.badRead (b.finished_frame limit) :)
theorem Book.finished_tmpl : (b.finished limit).tmpl = b.tmpl :=
  (congrArg Book.tmpl (b.finished_frame limit) :)
theorem Book.finished_samples : (b.finished limit).samples = b.samples :=
  (congrArg Book.samples (b.finished_frame limit) :)
theorem Book.finished_trail : (b.finished limit).trail = b.trail :=
  (congrArg Book.trail (b.finished_frame limit) :)
theorem Book.finished_lm : (b.finished limit).lm = b.lm :=
  (congrArg Book.lm (b.finished_frame limit) :)
theorem Book.finished_position : (b.finished limit).position = b.position :=
  (congrArg Book.position (b.finished_frame limit) :)

theorem Book.life_verdictRun : (b.withThickness.verdictRun limit).life = b.life :=
  (congrArg Book.life (b.withThickness.verdictRun_frame limit) :).trans
    (congrArg Book.life b.withThickness_frame :)

theorem Book.finished_of_gauging (h : b.life = .gauging) :
    b.finished limit = { b.withThickness.verdictRun limit with life := .toStaging } :=
  if_pos (Book.life_verdictRun.trans h)

theorem Book.finished_life (h : b.life = .gauging) : (b.finished limit).life = .toStaging := by
  rw [Book.finished_of_gauging h]

theorem Book.finished_thickness (hvalid : 3 ≤ (validSamples b.samples).length) :
    (b.finished limit).thickness = some (meanOf (validSamples b.samples)) := by
  have hrun : (b.withThickness.verdictRun limit).thickness = b.withThickness.thickness :=
    (congrArg Book.thickness (b.withThickness.verdictRun_frame limit) :)
  rw [← Book.thickness_withThickness hvalid, ← hrun]
  unfold Book.finished
  dsimp only
  split <;> rfl

theorem Book.finished_reason : (b.finished limit).reason = (b.withThickness.verdictRun limit).reason := by
  unfold Book.finished
  dsimp only
  split <;> rfl

theorem Book.binding_withThickness : b.withThickness.binding = b.binding :=
  (congrArg Book.binding b.withThickness_frame :)

theorem Book.reason_withThickness : b.withThickness.reason = b.reason :=
  (congrArg Book.reason b.withThickness_frame :)

theorem Book.finished_reason_of_unbound (h : b.binding ≠ some .bound) :
    (b.finished limit).reason = b.reason := by
  rw [Book.finished_reason,
    Book.verdictRun_of_unbound (b := b.withThickness) (by rwa [Book.binding_withThickness]),
    Book.reason_withThickness]

/-- A bound record that cannot be judged. -/
theorem Book.finished_gaugeFail (hlive : b.live = true) (hbound : b.binding = some .bound)
    (htmpl : b.tmpl ≠ none) (h : (validSamples b.samples).length < 3 ∨ b.lm = none) :
    (b.finished limit).reason = some (b.reason.getD .gaugeFail) := by
  obtain ⟨k, hk⟩ := Option.ne_none_iff_exists'.1 htmpl
  have hframe := b.withThickness_frame
  have hrun : b.withThickness.verdictRun limit = b.withThickness.judged k limit := by
    have hbinding : b.withThickness.binding = some .bound := Book.binding_withThickness.trans hbound
    have htmpl' : b.withThickness.tmpl = some k := (congrArg Book.tmpl hframe).trans hk
    have hlife : b.withThickness.life = b.life := (congrArg Book.life hframe :)
    have hlive' : b.withThickness.live = true := by unfold Book.live; rw [hlife]; exact hlive
    simp only [Book.verdictRun, hbinding, htmpl', hlive', if_true]
  have hsamples : b.withThickness.samples = b.samples := (congrArg Book.samples hframe :)
  have hlm : b.withThickness.lm = b.lm := (congrArg Book.lm hframe :)
  rw [Book.finished_reason, hrun, Book.judged_gaugeFail (by rwa [hsamples, hlm]),
    Book.reason_withThickness]

end

theorem State.updBook_updBook (s : State) (r : Nat) {f : Book → Book} (g : Book → Book)
    (hf : ∀ b, (f b).slot = b.slot) : (s.updBook r f).updBook r g = s.updBook r (fun b => g (f b)) := by
  unfold State.updBook
  simp only [List.map_map]
  congr 2
  refine List.map_congr_left fun b _ => ?_
  dsimp only [Function.comp]
  by_cases h : (b.slot == r) = true
  · simp only [h, if_true, hf b]
  · simp only [h, Bool.false_eq_true, if_false]

theorem State.finishGauging_eq (s : State) (r : Nat) : s.finishGauging r =
    (s.updBook r (Book.finished · s.cfg.spreadLimit)).setGauging none := by
  have hthick (b : Book) : b.withThickness.slot = b.slot := (congrArg Book.slot b.withThickness_frame :)
  have hrun (b : Book) : (b.verdictRun s.cfg.spreadLimit).slot = b.slot :=
    (congrArg Book.slot (b.verdictRun_frame _) :)
  show (((s.updBook r Book.withThickness).updBook r (Book.verdictRun · s.cfg.spreadLimit)).updBook r
    (fun b => if b.life = .gauging then { b with life := .toStaging } else b)).setGauging none = _
  rw [State.updBook_updBook _ _ _ hthick, State.updBook_updBook _ _ _ fun b => (hrun _).trans (hthick b)]
  rfl

theorem State.book?_finishGauging {s : State} {r : Nat} {b : Book} (hb : s.book? r = some b) :
    (s.finishGauging r).book? r = some (b.finished s.cfg.spreadLimit) := by
  rw [State.finishGauging_eq]
  exact (State.book?_updBook_self s r (Book.finished · s.cfg.spreadLimit) fun _ =>
    Book.finished_slot).trans (congrArg (Option.map _) hb)

/-- The completion test of a gauging record. -/
theorem State.completionTest_eq {s : State} {g : Gauging} {b : Book} (hg : s.gauge.current = some g)
    (hb : s.book? g.slot = some b) : s.completionTest =
      if g.length.isEnded && b.samples.all Option.isSome && g.window.isNone then s.finishGauging g.slot
      else s := by
  simp only [State.completionTest, hg, hb]

theorem State.completionTest_of_window {s : State} {g : Gauging} (hg : s.gauge.current = some g)
    (hw : g.window ≠ none) : s.completionTest = s := by
  unfold State.completionTest
  rw [hg]
  dsimp only
  split
  · exact if_neg (by simp [Option.isNone_iff_eq_none, hw])
  · rfl

end Sys2Proof.Machine
end

section
/-! SUPPORT. What a read window gives its record (R25 to R28, R84, R85). -/
namespace Sys2Proof.Machine

def Identified.binding : Identified → Binding
  | .unboundFor why => .unbound why
  | .expectedEarly => .early
  | .boundTo _ => .bound

/-- The tests of an identifier read the orders, the set of expected orders and the bound records. -/
theorem State.identified_congr {s t : State} (horders : t.orders = s.orders)
    (hadmit : t.admitSet = s.admitSet) (htwin : ∀ i, t.boundTwin i = s.boundTwin i) (i : Ident) :
    t.identified i = s.identified i := by
  have horder (n : Nat) : t.order? n = s.order? n := by
    unfold State.order?
    rw [horders]
  have hexpected (n : Nat) : t.expected n = s.expected n := by
    unfold State.expected
    rw [hadmit]
  simp only [State.identified, horder, hexpected, htwin]

theorem State.order?_of_boundTo {s : State} {i : Ident} {o : Order} (h : s.identified i = .boundTo o) :
    s.order? i.order = some o := by
  unfold State.identified at h
  split at h
  · cases h
  · split at h
    · split at h <;> cases h
    · next p hp =>
      rw [hp]
      split at h
      · cases h
      · split at h
        · split at h
          · cases h
          · split at h <;> cases h <;> rfl
        · split at h
          · cases h
          · split at h <;> cases h
            rfl

/-- No record of slot `r` is bound. -/
def State.SlotUnbound (s : State) (r : Nat) : Prop :=
  ∀ b ∈ s.table.books, b.slot = r → b.binding = none

theorem State.boundTwin_updBook {s : State} {r : Nat} {f : Book → Book} (h : s.SlotUnbound r)
    (hf : ∀ b, (f b).binding = b.binding) (i : Ident) : (s.updBook r f).boundTwin i = s.boundTwin i := by
  unfold State.boundTwin State.updBook
  rw [List.any_map, Bool.eq_iff_iff, List.any_eq_true, List.any_eq_true]
  refine exists_congr fun b => and_congr_right fun hb => ?_
  dsimp only [Function.comp]
  by_cases hr : (b.slot == r) = true
  · have hnone := h b hb (eq_of_beq hr)
    simp [hr, hf, hnone]
  · simp only [hr, Bool.false_eq_true, if_false]

theorem State.identified_updBook {s : State} {r : Nat} {f : Book → Book} (h : s.SlotUnbound r)
    (hf : ∀ b, (f b).binding = b.binding) (i : Ident) :
    (s.updBook r f).identified i = s.identified i :=
  State.identified_congr (s := s) (t := s.updBook r f) rfl rfl (State.boundTwin_updBook h hf) i

theorem State.SlotUnbound.updBook {s : State} {r : Nat} {f : Book → Book} (h : s.SlotUnbound r)
    (hf : ∀ b, (f b).binding = b.binding) : (s.updBook r f).SlotUnbound r := by
  intro c hc hr
  obtain ⟨b, hb, rfl⟩ := List.mem_map.1 hc
  by_cases hb' : (b.slot == r) = true
  · rw [if_pos hb', hf]
    exact h b hb (eq_of_beq hb')
  · rw [if_neg hb'] at hr
    exact absurd (beq_iff_eq.2 hr) hb'

/-- What an accepted identifier makes of a record, `os` being the orders it leaves. -/
structure State.Identifies (s : State) (i : Ident) (b c : Book) (os : List Order) : Prop where
  kept : { c with binding := b.binding, tmpl := b.tmpl, sr := b.sr, verdict := b.verdict
                  reason := b.reason } = b
  binding : c.binding = some (s.identified i).binding
  bound : ∀ o, s.identified i = .boundTo o → c.tmpl = some o.tmpl ∧
    os = s.orders.map (fun p => if p.tmpl.order = i.order then p.withBound i s.clock else p)
  orders : (∀ o, s.identified i ≠ .boundTo o) → os = s.orders
  unbound : ∀ why, c.binding = some (.unbound why) → c.reason = some (b.reason.getD why)

theorem State.book?_unbind_none {s : State} {r : Nat} {b : Book} (hb : s.book? r = some b)
    (hlive : b.life ≠ .retired) (hbinding : b.binding = none) (why : Reason) :
    (s.unbind r why).book? r =
      some { b with binding := some (.unbound why), reason := some (b.reason.getD why) } := by
  unfold State.unbind
  rw [State.book?_updBook_self, hb, Option.map_some, if_pos (b.live_iff.2 hlive), hbinding]
  intro d
  split
  · split <;> rfl
  · rfl

theorem State.updOrder_orders (s : State) (n : Nat) (f : Order → Order) : (s.updOrder n f).orders =
    s.orders.map (fun o => if o.tmpl.order = n then f o else o) := by
  refine List.map_congr_left fun o _ => ?_
  simp only [beq_iff_eq]

theorem State.book?_runVerdict {s : State} {r : Nat} {b : Book} (hb : s.book? r = some b) :
    (s.runVerdict r).book? r = some (b.verdictRun s.cfg.spreadLimit) :=
  (State.book?_updBook_self s r (Book.verdictRun · s.cfg.spreadLimit) fun d =>
    (congrArg Book.slot (d.verdictRun_frame _) :)).trans (congrArg (Option.map _) hb)

theorem identifies_bind {s : State} {r : Nat} {i : Ident} {o : Order} {b : Book}
    (hb : s.book? r = some b) (hident : s.identified i = .boundTo o) :
    ∃ c, (s.bind r i o).book? r = some c ∧ s.Identifies i b c (s.bind r i o).orders := by
  have hbound : (s.bindBook r i o).book? r = some { b with binding := some .bound, tmpl := some o.tmpl } :=
    (State.book?_updBook_self s r (fun b => { b with binding := some .bound, tmpl := some o.tmpl })
      fun _ => rfl).trans (congrArg (Option.map _) hb)
  have horders : (s.bindBook r i o).orders =
      s.orders.map (fun p => if p.tmpl.order = i.order then p.withBound i s.clock else p) :=
    State.updOrder_orders _ _ _
  have hbinding : (s.identified i).binding = .bound := by rw [hident] <;> rfl
  have hto (p : Order) (hp : s.identified i = .boundTo p) : p = o := by
    rw [hident] at hp
    cases hp
    rfl
  rw [State.bind_eq, hbound]
  dsimp only
  split
  · have hread := State.book?_runVerdict (s := s.bindBook r i o) hbound
    have hframe := Book.verdictRun_frame { b with binding := some .bound, tmpl := some o.tmpl }
      (s.bindBook r i o).cfg.spreadLimit
    refine ⟨_, hread, ?_, ?_, fun p hp => ⟨?_, horders⟩, fun hno => absurd hident (hno o), ?_⟩
    · exact (congrArg (fun d : Book => { d with binding := b.binding, tmpl := b.tmpl }) hframe :)
    · rw [hbinding]
      exact (congrArg Book.binding hframe :)
    · rw [hto p hp]
      exact (congrArg Book.tmpl hframe :)
    · intro why hwhy
      have hbind := (congrArg Book.binding hframe :)
      cases hwhy.symm.trans hbind
  · refine ⟨_, hbound, rfl, congrArg some hbinding.symm, fun p hp => ⟨by rw [hto p hp], horders⟩,
      fun hno => absurd hident (hno o), nofun⟩

theorem identifies_identifyAs {s : State} {r : Nat} {i : Ident} {b : Book} (hb : s.book? r = some b)
    (hlive : b.life ≠ .retired) (hbinding : b.binding = none) :
    ∃ c, (s.identifyAs r i).book? r = some c ∧ s.Identifies i b c (s.identifyAs r i).orders := by
  have heq : s.identifyAs r i = match s.identified i with
      | .unboundFor why => s.unbind r why
      | .expectedEarly => s.updBook r (fun b => { b with binding := some .early })
      | .boundTo o => s.bind r i o := by
    unfold State.identifyAs
    rw [hb]
    exact if_pos (by simp [b.live_iff.2 hlive, hbinding])
  cases hident : s.identified i with
  | unboundFor why =>
    rw [hident] at heq
    rw [heq]
    refine ⟨_, State.book?_unbind_none hb hlive hbinding why, rfl, by rw [hident] <;> rfl,
      fun o ho => ?_, fun _ => rfl, fun w hw => ?_⟩
    · cases hident.symm.trans ho
    · cases hw
      rfl
  | expectedEarly =>
    rw [hident] at heq
    rw [heq]
    refine ⟨_, (State.book?_updBook_self s r (fun b => { b with binding := some .early })
      fun _ => rfl).trans (congrArg (Option.map _) hb), rfl, by rw [hident] <;> rfl,
      fun o ho => ?_, fun _ => rfl, nofun⟩
    cases hident.symm.trans ho
  | boundTo o =>
    rw [hident] at heq
    rw [heq]
    exact identifies_bind hb hident

/-- What a read window makes of its record `b`, in state `s`, `os` being the orders it leaves. -/
structure State.WindowRead (s : State) (w : ReadWindow) (b c : Book) (os : List Order) : Prop where
  badRead : c.badRead = (b.badRead || w.bad)
  noRead : w.idents = [] → c.binding = some (.unbound .noRead) ∧ c.ident = b.ident
  ambiguous : ∀ i ∈ w.idents, ∀ j ∈ w.idents, i ≠ j →
    c.binding = some (.unbound .ambiguous) ∧ c.ident = b.ident
  unread : (w.idents = [] ∨ ∃ i ∈ w.idents, ∃ j ∈ w.idents, i ≠ j) → os = s.orders
  ident : ∀ i ∈ w.idents, (∀ j ∈ w.idents, j = i) → c.ident = some i
  binding : ∀ i ∈ w.idents, (∀ j ∈ w.idents, j = i) → c.binding = some (s.identified i).binding
  bound : ∀ i ∈ w.idents, (∀ j ∈ w.idents, j = i) → ∀ o, s.identified i = .boundTo o →
    c.tmpl = some o.tmpl ∧
      os = s.orders.map (fun p => if p.tmpl.order = i.order then p.withBound i s.clock else p)
  orders : ∀ i ∈ w.idents, (∀ j ∈ w.idents, j = i) → (∀ o, s.identified i ≠ .boundTo o) →
    os = s.orders
  unbound : ∀ why, c.binding = some (.unbound why) → c.reason = some (b.reason.getD why)

theorem all_eq_iff {i : Ident} {rest : List Ident} :
    rest.all (· == i) = true ↔ ∀ j ∈ i :: rest, j = i := by
  simp

theorem windowRead_identifyWindow {s : State} {r : Nat} {w : ReadWindow} {b : Book}
    (hb : s.book? r = some b) (hlive : b.life ≠ .retired) (hbinding : b.binding = none)
    (hslot : s.SlotUnbound r) :
    ∃ c, (s.identifyWindow r w).book? r = some c ∧
      s.WindowRead w b c (s.identifyWindow r w).orders := by
  let mark (d : Book) : Book := { d with badRead := d.badRead || w.bad }
  have hmarked : (s.updBook r mark).book? r = some (mark b) :=
    (State.book?_updBook_self s r mark fun _ => rfl).trans (congrArg (Option.map _) hb)
  have hunread (why : Reason) := State.book?_unbind_none hmarked hlive hbinding why
  unfold State.identifyWindow
  cases hidents : w.idents with
  | nil =>
    refine ⟨_, hunread .noRead, {
      badRead := rfl, noRead := fun _ => ⟨rfl, rfl⟩
      ambiguous := fun i hi => ?_, unread := fun _ => rfl, ident := fun i hi => ?_
      binding := fun i hi => ?_, bound := fun i hi => ?_, orders := fun i hi => ?_
      unbound := fun why hwhy => by cases hwhy; rfl }⟩
    all_goals
      rw [hidents] at hi
      cases hi
  | cons i rest =>
    dsimp only
    by_cases hall : rest.all (· == i) = true
    · rw [if_pos hall]
      let name (d : Book) : Book := { d with ident := some i }
      let v := (s.updBook r mark).updBook r name
      have hnamed : v.book? r = some (name (mark b)) :=
        (State.book?_updBook_self _ r name fun _ => rfl).trans (congrArg (Option.map _) hmarked)
      have hsame : v.identified i = s.identified i :=
        (State.identified_updBook (f := name) (hslot.updBook (f := mark) fun _ => rfl) (fun _ => rfl) i).trans
          (State.identified_updBook (f := mark) hslot (fun _ => rfl) i)
      have honly := all_eq_iff.1 hall
      rw [← hidents] at honly
      have hmem : i ∈ w.idents := by rw [hidents]; exact List.mem_cons_self
      obtain ⟨c, hc, hid⟩ := identifies_identifyAs (i := i) hnamed hlive hbinding
      have hbind := hid.binding
      have hbound := hid.bound
      have horders := hid.orders
      rw [hsame] at hbind hbound horders
      refine ⟨c, hc, {
        badRead := (congrArg Book.badRead hid.kept :)
        noRead := fun hnil => by rw [hidents] at hnil; cases hnil
        ambiguous := fun x hx y hy hne => absurd ((honly x hx).trans (honly y hy).symm) hne
        unread := fun h => ?_
        ident := fun x hx _ => by rw [honly x hx]; exact (congrArg Book.ident hid.kept :)
        binding := fun x hx _ => by rw [honly x hx]; exact hbind
        bound := fun x hx _ => by rw [honly x hx]; exact hbound
        orders := fun x hx _ => by rw [honly x hx]; exact horders
        unbound := hid.unbound }⟩
      rcases h with hnil | ⟨x, hx, y, hy, hne⟩
      · rw [hidents] at hnil
        cases hnil
      · exact absurd ((honly x hx).trans (honly y hy).symm) hne
    · rw [if_neg hall]
      have hnot (x : Ident) (hx : x ∈ w.idents) : ¬ ∀ j ∈ w.idents, j = x := fun h => by
        refine hall (all_eq_iff.2 fun j hj => ?_)
        rw [hidents] at h
        exact (h j hj).trans (h i List.mem_cons_self).symm
      exact ⟨_, hunread .ambiguous, {
        badRead := rfl
        noRead := fun hnil => by rw [hidents] at hnil; cases hnil
        ambiguous := fun _ _ _ _ _ => ⟨rfl, rfl⟩, unread := fun _ => rfl
        ident := fun x hx h => absurd h (hnot x hx), binding := fun x hx h => absurd h (hnot x hx)
        bound := fun x hx h => absurd h (hnot x hx), orders := fun x hx h => absurd h (hnot x hx)
        unbound := fun why hwhy => by cases hwhy; rfl }⟩

end Sys2Proof.Machine
end

section
/-! SUPPORT. READ_WINDOW_CLOSE (R28, R84, R85). -/
namespace Sys2Proof.Machine

/-- A later form of a record that keeps its identification. -/
structure Book.Shows (c d : Book) : Prop where
  ident : d.ident = c.ident
  binding : d.binding = c.binding
  badRead : d.badRead = c.badRead
  tmpl : d.tmpl = c.tmpl
  reason : ∀ why x, c.binding = some (.unbound why) → c.reason = some x → d.reason = some x

theorem Book.Shows.refl (b : Book) : b.Shows b := ⟨rfl, rfl, rfl, rfl, fun _ _ _ h => h⟩

theorem Book.Shows.trans {b c d : Book} (h : b.Shows c) (g : c.Shows d) : b.Shows d where
  ident := g.ident.trans h.ident
  binding := g.binding.trans h.binding
  badRead := g.badRead.trans h.badRead
  tmpl := g.tmpl.trans h.tmpl
  reason why x hb hx := g.reason why x (h.binding.trans hb) (h.reason why x hb hx)

theorem Book.Decided.shows {b c : Book} (h : b.Decided c) : b.Shows c where
  ident := (congrArg Book.ident h.fixed :)
  binding := (congrArg Book.binding h.fixed :)
  badRead := (congrArg Book.badRead h.fixed :)
  tmpl := (congrArg Book.tmpl h.fixed :)
  reason _ x _ hx := h.reason x hx

theorem Book.shows_finished (b : Book) (limit : Nat) : b.Shows (b.finished limit) where
  ident := Book.finished_ident
  binding := Book.finished_binding
  badRead := Book.finished_badRead
  tmpl := Book.finished_tmpl
  reason why x hb hx := (Book.finished_reason_of_unbound (by rw [hb]; nofun)).trans hx

theorem State.SlotsAccounted.slotUnbound {s : State} (h : s.SlotsAccounted) {r : Nat} {b : Book}
    (hb : s.book? r = some b) (hbinding : b.binding = none) : s.SlotUnbound r := by
  intro c hc hr
  have hread := h.book?_of_mem hc
  rw [hr, hb] at hread
  rw [← Option.some.inj hread]
  exact hbinding

theorem State.closeWindow_eq {s : State} {g : Gauging} {w : ReadWindow} (hg : s.gauge.current = some g)
    (hw : g.window = some w) : s.closeWindow =
      (s.setGauging (some { g with window := none })).identifyWindow g.slot w := by
  simp only [State.closeWindow, hg, hw]

/-- A window that closes. -/
theorem State.closeWindow_spec {s : State} {g : Gauging} {w : ReadWindow} {b : Book}
    (hg : s.gauge.current = some g) (hw : g.window = some w) (hb : s.book? g.slot = some b)
    (hlive : b.life ≠ .retired) (hbinding : b.binding = none) (hslot : s.SlotUnbound g.slot) :
    s.closeWindow.gauge.current = some { g with window := none } ∧
      ∃ c, s.closeWindow.book? g.slot = some c ∧ s.WindowRead w b c s.closeWindow.orders := by
  rw [State.closeWindow_eq hg hw]
  refine ⟨congrArg GaugeUnit.current (State.gauge_identifyWindow _ _ _), ?_⟩
  obtain ⟨c, hc, hread⟩ := windowRead_identifyWindow
    (s := s.setGauging (some { g with window := none })) (w := w) hb hlive hbinding hslot
  have hsame (i : Ident) : (s.setGauging (some { g with window := none })).identified i =
      s.identified i := State.identified_congr rfl rfl (fun _ => rfl) i
  have hbind := hread.binding
  have hbound := hread.bound
  have horders := hread.orders
  simp only [hsame] at hbind hbound horders
  exact ⟨c, hc, { hread with binding := hbind, bound := hbound, orders := horders }⟩

theorem Identified.binding_eq (x : Identified) : x.binding = match x with
    | .unboundFor why => .unbound why
    | .expectedEarly => .early
    | .boundTo _ => .bound := by
  cases x <;> rfl

/-- A completion test leaves the identification. -/
theorem State.completionTest_shows {s : State} {g : Gauging} {b : Book} (hg : s.gauge.current = some g)
    (hb : s.book? g.slot = some b) :
    s.completionTest.orders = s.orders ∧
      (s.completionTest.gauge.current = none ∨ s.completionTest.gauge.current = some g) ∧
      ∃ c, s.completionTest.book? g.slot = some c ∧ b.Shows c := by
  rw [State.completionTest_eq hg hb]
  split
  · exact ⟨rfl, .inl rfl, _, State.book?_finishGauging hb, b.shows_finished _⟩
  · exact ⟨rfl, .inr hg, b, hb, .refl b⟩

theorem State.windowTest_eq {s : State} {g : Gauging} {w : ReadWindow} {b : Book}
    (hg : s.gauge.current = some g) (hw : g.window = some w) (hb : s.book? g.slot = some b)
    (hdir : (s.belt .a).direction = .forward) (hcounted : (s.belt .a).counted = true) :
    sdiff (s.belt .a).count b.lead = (s.cfg.maxSpan : Int) + s.cfg.readGrace ∨
      (∃ t, b.trail = some t ∧ sdiff (s.belt .a).count t = (s.cfg.readGrace : Int)) →
    s.windowTest = s.closeWindow.completionTest := by
  intro hdue
  have hwindow : s.windowDue b = true := by
    unfold State.windowDue State.travel
    rcases hdue with h | ⟨t, ht, h⟩
    · simp [h]
    · simp [ht, h]
  simp only [State.windowTest, hg, hb]
  exact if_pos (by simp [State.movingForward, hdir, hcounted, hw, hwindow])

theorem Order.withBound_eq (o : Order) (i : Ident) (now : Clock) : o.withBound i now = { o with
    counters := { o.counters with
      admitted := countUp i.order 0 now o.counters.admitted
      inProcess := countUp i.order 1 now o.counters.inProcess }
    copyMap := match o.tmpl.mode with
      | .copyExact => o.copyMap.set (i.copy - 1) .inProcess
      | .title => o.copyMap } := by
  unfold Order.withBound
  cases o.tmpl.mode <;> rfl

/-- Settles O34. -/
theorem readWindowClose : Obligations.ReadWindowClose := by
  intro s g w b hs hg hw hb hlive hbinding hdir hcounted hdue
  have hslot := hs.slotUnbound hb hbinding
  obtain ⟨hcurrent, x, hx, hread⟩ := State.closeWindow_spec hg hw hb hlive hbinding hslot
  obtain ⟨horders, hgauge, y, hy, hshows⟩ := State.completionTest_shows hcurrent hx
  have hdec := decides_follow s.closeWindow.completionTest
  obtain ⟨c, hc, hdecided⟩ := hdec.book?_eq hy
  have hall := hshows.trans hdecided.shows
  have hos : s.closeWindow.completionTest.follow.orders = s.closeWindow.orders :=
    hdec.orders.trans horders
  have heq := State.windowTest_eq hg hw hb hdir hcounted hdue
  refine ⟨_, c, congrArg (fun t : State => Host.Outcome.next t.follow) heq, hc, ?_, ?_, ?_, ?_, ?_, ?_, ?_⟩
  · rw [hdec.gauge]
    exact hgauge
  · exact hall.badRead.trans hread.badRead
  · intro hnil
    obtain ⟨hbind, hident⟩ := hread.noRead hnil
    exact ⟨hall.binding.trans hbind, hall.ident.trans hident⟩
  · intro i hi j hj hne
    obtain ⟨hbind, hident⟩ := hread.ambiguous i hi j hj hne
    exact ⟨hall.binding.trans hbind, hall.ident.trans hident⟩
  · intro i hi hone
    refine ⟨hall.ident.trans (hread.ident i hi hone), ?_, fun o ho => ?_, fun hno => ?_⟩
    · rw [hall.binding, hread.binding i hi hone, Identified.binding_eq] <;> rfl
    · obtain ⟨htmpl, hmap⟩ := hread.bound i hi hone o ho
      refine ⟨hall.tmpl.trans htmpl, State.number_of_order? (State.order?_of_boundTo ho),
        (hos.trans hmap).trans (List.map_congr_left fun p _ => ?_)⟩
      rw [Order.withBound_eq] <;> rfl
    · exact hos.trans (hread.orders i hi hone hno)
  · exact fun h => hos.trans (hread.unread h)
  · intro why hwhy
    have hx' : x.binding = some (.unbound why) := hall.binding.symm.trans hwhy
    exact hall.reason why _ hx' (hread.unbound why hx')

end Sys2Proof.Machine
end

section
/-! SUPPORT. Samples, span and trailing edges (R81 to R83, R86). -/
namespace Sys2Proof.Machine

theorem State.movingForward_iff (s : State) (z : Belt) : s.movingForward z = true ↔
    (s.belt z).direction = .forward ∧ (s.belt z).counted = true := by
  unfold State.movingForward
  rw [Bool.and_eq_true, decide_eq_true_eq]

theorem State.not_movingForward {s : State} {z : Belt}
    (h : (s.belt z).direction = .reverse ∨ (s.belt z).counted = false) : s.movingForward z = false := by
  unfold State.movingForward
  rcases h with h | h <;> simp [h]

theorem length_takeSamples (travel : Int) (held : Option Nat) (ps : List Nat)
    (xs : List (Option Sample)) : (takeSamples travel held ps xs).length = xs.length := by
  induction ps generalizing xs with
  | nil => rfl
  | cons p ps ih =>
    cases xs with
    | nil => rfl
    | cons x xs => exact congrArg Nat.succ (ih xs)

theorem getElem?_takeSamples {travel : Int} {held : Option Nat} {ps : List Nat}
    {xs : List (Option Sample)} {i p : Nat} {x : Option Sample} (hp : ps[i]? = some p)
    (hx : xs[i]? = some x) : (takeSamples travel held ps xs)[i]? =
      some (if x = none ∧ travel = (p : Int) then some (sampleOf held) else x) := by
  induction ps generalizing xs i with
  | nil => cases hp
  | cons q ps ih =>
    cases xs with
    | nil => cases hx
    | cons y xs =>
      cases i with
      | zero =>
        cases hp
        cases hx
        simp [takeSamples, Option.isNone_iff_eq_none]
      | succ i => exact ih hp hx

/-- Settles O33. -/
theorem gaugingCounts : Obligations.GaugingCounts := by
  intro s g b hg hb hw travel sample
  refine ⟨fun hdir hcounted hlen => ?_, fun hstill => ?_, fun hdir hcounted hlength htravel => ?_⟩
  · let take (d : Book) : Book := { d with
      samples := takeSamples (sdiff (s.belt .a).count d.lead) s.gauge.held (samplePoints s.cfg) d.samples }
    have htest : s.sampleTest = s.updBook g.slot take := by
      simp only [State.sampleTest, hg, hb]
      rw [if_pos ((State.movingForward_iff s .a).2 ⟨hdir, hcounted⟩)]
      exact State.completionTest_of_window (s := s.updBook g.slot take) hg hw
    have htook : (s.updBook g.slot take).book? g.slot = some (take b) :=
      (State.book?_updBook_self s g.slot take fun _ => rfl).trans (congrArg (Option.map _) hb)
    have hdec := decides_follow (s.updBook g.slot take)
    obtain ⟨c, hc, hdecided⟩ := hdec.book?_eq htook
    have hsamples : c.samples = (take b).samples := (congrArg Book.samples hdecided.fixed :)
    refine ⟨_, c, congrArg (fun t : State => Host.Outcome.next t.follow) htest, hdec, hc, ?_,
      fun i p x hp hx => ?_⟩
    · rw [hsamples]
      exact (length_takeSamples _ _ _ _).trans hlen
    · rw [hsamples]
      exact getElem?_takeSamples hp hx
  · have hnot := State.not_movingForward hstill
    have hsample : s.sampleTest = s := by
      simp only [State.sampleTest, hg, hb]
      exact if_neg (by rw [hnot]; exact Bool.false_ne_true)
    have hspan : s.spanTest = s := by
      simp only [State.spanTest, hg, hb]
      exact if_neg (by rw [hnot, Bool.false_and, Bool.false_and]; exact Bool.false_ne_true)
    exact ⟨⟨_, congrArg (fun t : State => Host.Outcome.next t.follow) hsample, decides_follow s⟩,
      _, congrArg (fun t : State => Host.Outcome.next t.follow) hspan, decides_follow s⟩
  · have htest : s.spanTest = (s.endLength.fault .a .eyeBlocked).completionTest := by
      simp only [State.spanTest, hg, hb]
      exact if_pos (by
        simp [State.movingForward, hdir, hcounted, hlength, LengthState.isEnded, State.travel,
          show sdiff (s.belt .a).count b.lead = _ from htravel])
    have hended : s.endLength = s.setGauging (some { g with length := .ended none }) := by
      simp only [State.endLength, hg, hlength]
    have hcurrent : (s.endLength.fault .a .eyeBlocked).gauge.current =
        some { g with length := .ended none } := by
      rw [State.fault_gauge, hended]
      rfl
    rw [State.completionTest_of_window hcurrent hw, hended] at htest
    exact ⟨_, congrArg (fun t : State => Host.Outcome.next t.follow) htest, decides_follow _⟩

/-! ### Trailing edges -/

theorem exec_eyeTrailingEdge {s : State} {e : Eye} (h : e ≠ .gauge) :
    exec (.eyeTrailingEdge e) s = .next (s.cleared (eyePoint e)) := by
  have hedge (t : State) : t.trailingEdge e = t := by
    cases e <;> first | rfl | exact absurd rfl h
  show Host.Outcome.next (s.fallingInput (eyePoint e) (State.trailingEdge · e)) = _
  unfold State.fallingInput
  simp only [hedge, ite_self]
  rfl

/-- The completion test of a record whose length has ended and whose samples are settled (R86). -/
theorem completionTest_settled {s : State} {g : Gauging} {b : Book} (hg : s.gauge.current = some g)
    (hb : s.book? g.slot = some b) (hended : g.length.isEnded = true)
    (hall : b.samples.all Option.isSome = true) :
    (g.window ≠ none → s.completionTest = s) ∧
      (g.window = none → s.completionTest = s.finishGauging g.slot) := by
  refine ⟨State.completionTest_of_window hg, fun hw => ?_⟩
  rw [State.completionTest_eq hg hb]
  exact if_pos (by simp [hended, hall, hw])

theorem all_isSome_settleInvalid (l : List (Option Sample)) :
    (settleInvalid l).all Option.isSome = true := by
  simp [settleInvalid]

/-- What stands of a record that is gauged when the units have decided. -/
theorem Book.Decided.measured {b c : Book} (h : b.Decided c) :
    c.samples = b.samples ∧ c.trail = b.trail ∧ c.lm = b.lm ∧ c.thickness = b.thickness :=
  ⟨(congrArg Book.samples h.fixed :), (congrArg Book.trail h.fixed :), (congrArg Book.lm h.fixed :),
    (congrArg Book.thickness h.fixed :)⟩

theorem follow_completionTest {s : State} {g : Gauging} {b : Book} (hg : s.gauge.current = some g)
    (hb : s.book? g.slot = some b) (hlife : b.life = .gauging) (hended : g.length.isEnded = true)
    (hall : b.samples.all Option.isSome = true) :
    ∃ c, s.completionTest.follow.book? g.slot = some c ∧ c.samples = b.samples ∧ c.trail = b.trail ∧
      c.lm = b.lm ∧
      (g.window ≠ none → c.life = .gauging ∧ s.completionTest.follow.gauge.current = some g) ∧
      (g.window = none → c.life = .toStaging ∧ s.completionTest.follow.gauge.current = none ∧
        (3 ≤ (validSamples b.samples).length →
          c.thickness = some (meanOf (validSamples b.samples)))) := by
  obtain ⟨hopen, hclosed⟩ := completionTest_settled hg hb hended hall
  have hdec := decides_follow s.completionTest
  by_cases hw : g.window = none
  · rw [hclosed hw] at hdec ⊢
    obtain ⟨c, hc, hdecided⟩ := hdec.book?_eq (State.book?_finishGauging hb)
    obtain ⟨hsamples, htrail, hlm, hthickness⟩ := hdecided.measured
    refine ⟨c, hc, hsamples.trans Book.finished_samples, htrail.trans Book.finished_trail,
      hlm.trans Book.finished_lm, fun h => absurd hw h, fun _ => ⟨?_, ?_, fun hvalid => ?_⟩⟩
    · exact hdecided.life.trans (Book.finished_life hlife)
    · rw [hdec.gauge]
      rfl
    · exact hthickness.trans (Book.finished_thickness hvalid)
  · rw [hopen hw] at hdec ⊢
    obtain ⟨c, hc, hdecided⟩ := hdec.book?_eq hb
    obtain ⟨hsamples, htrail, hlm, -⟩ := hdecided.measured
    refine ⟨c, hc, hsamples, htrail, hlm, fun _ => ⟨hdecided.life.trans hlife, ?_⟩,
      fun h => absurd h hw⟩
    rw [hdec.gauge, hg]

/-- A record with its samples settled (R82). -/
def Book.settled (b : Book) : Book := { b with samples := settleInvalid b.samples }

/-- A record with the capture of its trailing edge. -/
def Book.trailed (b : Book) (capture : Count) (lm : Nat) : Book :=
  { b with trail := some capture, lm := some lm }

theorem State.settleSamples_eq {s : State} {g : Gauging} (hg : s.gauge.current = some g) :
    s.settleSamples = s.updBook g.slot Book.settled := by
  simp only [State.settleSamples, hg]
  rfl

theorem State.book?_settled {s : State} {r : Nat} {b : Book} (hb : s.book? r = some b) :
    (s.updBook r Book.settled).book? r = some b.settled :=
  (State.book?_updBook_self s r Book.settled fun _ => rfl).trans (congrArg (Option.map _) hb)

theorem State.gaugeTrailing_none {s : State} (h : s.gauge.current = none) (capture : Count) :
    s.gaugeTrailing capture = s := by
  simp only [State.gaugeTrailing, h]

/-- A trailing edge during the length measurement. -/
theorem State.gaugeTrailing_inProgress {s : State} {g : Gauging} {b : Book} {capture : Count}
    (hg : s.gauge.current = some g) (hb : s.book? g.slot = some b) (hlength : g.length = .inProgress) :
    s.gaugeTrailing capture =
      if 0 < sdiff capture b.lead then
        (((s.updBook g.slot Book.settled).updBook g.slot (Book.trailed · capture
          (halfUp ((capture - b.lead).toNat * s.cfg.scale.a) 10))).setGauging
          (some { g with length := .ended (some capture) })).completionTest
      else ((s.updBook g.slot Book.settled).setGauging
        (some { g with length := .ended none })).completionTest := by
  simp only [State.gaugeTrailing, hg, State.settleSamples_eq hg, hlength, State.book?_settled hb]
  rfl

theorem halfUp_ten (x : Nat) : halfUp x 10 = (2 * x + 10) / 20 := by
  unfold halfUp
  norm_num

/-- What a trailing edge leaves of the record that is gauged, when its length is in progress. -/
theorem gaugeTrailing_spec {s : State} {g : Gauging} {b : Book} (n : Count)
    (hg : s.gauge.current = some g) (hb : s.book? g.slot = some b) (hlife : b.life = .gauging)
    (hlength : g.length = .inProgress) :
    let valid := validSamples b.settled.samples
    ∃ c, (s.gaugeTrailing n).follow.book? g.slot = some c ∧ c.samples = b.settled.samples ∧
      (0 < sdiff n b.lead → c.trail = some n ∧
        c.lm = some ((2 * ((n - b.lead).toNat * s.cfg.scale.a) + 10) / 20)) ∧
      (¬ 0 < sdiff n b.lead → c.trail = b.trail ∧ c.lm = b.lm) ∧
      (g.window ≠ none → c.life = .gauging ∧ (s.gaugeTrailing n).follow.gauge.current =
        some { g with length := .ended (if 0 < sdiff n b.lead then some n else none) }) ∧
      (g.window = none → c.life = .toStaging ∧ (s.gaugeTrailing n).follow.gauge.current = none ∧
        (3 ≤ valid.length → c.thickness = some ((2 * valid.sum + valid.length) / (2 * valid.length)))) := by
  intro valid
  have hsettled := State.book?_settled hb
  rw [State.gaugeTrailing_inProgress hg hb hlength, halfUp_ten]
  by_cases hf : 0 < sdiff n b.lead
  · simp only [if_pos hf]
    have htrailed : ((s.updBook g.slot Book.settled).updBook g.slot (Book.trailed · n
        ((2 * ((n - b.lead).toNat * s.cfg.scale.a) + 10) / 20))).book? g.slot =
          some (b.settled.trailed n ((2 * ((n - b.lead).toNat * s.cfg.scale.a) + 10) / 20)) :=
      (State.book?_updBook_self _ g.slot (Book.trailed · n _) fun _ => rfl).trans
        (congrArg (Option.map _) hsettled)
    generalize (s.updBook g.slot Book.settled).updBook g.slot (Book.trailed · n
        ((2 * ((n - b.lead).toNat * s.cfg.scale.a) + 10) / 20)) = u at htrailed ⊢
    obtain ⟨c, hc, hsamples, htrail, hlm, hopen, hclosed⟩ := follow_completionTest
      (s := u.setGauging (some { g with length := .ended (some n) })) rfl htrailed hlife rfl
      (all_isSome_settleInvalid _)
    exact ⟨c, hc, hsamples, fun _ => ⟨htrail, hlm⟩, fun h => absurd hf h, hopen, hclosed⟩
  · simp only [if_neg hf]
    generalize s.updBook g.slot Book.settled = u at hsettled ⊢
    obtain ⟨c, hc, hsamples, htrail, hlm, hopen, hclosed⟩ := follow_completionTest
      (s := u.setGauging (some { g with length := .ended none })) rfl hsettled hlife rfl
      (all_isSome_settleInvalid _)
    exact ⟨c, hc, hsamples, fun h => absurd h hf, fun _ => ⟨htrail, hlm⟩, hopen, hclosed⟩

/-- Settles O38. -/
theorem trailingEdges : Obligations.TrailingEdges := by
  intro s
  have hexec (hm : (s.point 7).mode = .input) : exec .gaugeTrailingEdge s =
      .next ((s.cleared 7).gaugeTrailing (s.belt .a).count).follow :=
    congrArg Host.Outcome.next (if_pos hm)
  refine ⟨fun e he => exec_eyeTrailingEdge he, fun hm hg => ?_, fun hm g b hg hb hlife hlength => ?_⟩
  · rw [hexec hm, State.gaugeTrailing_none (s := s.cleared 7) hg]
    exact ⟨_, rfl, decides_follow _⟩
  · intro n settled forward
    obtain ⟨c, hfacts⟩ := gaugeTrailing_spec (s := s.cleared 7) n hg hb hlife hlength
    exact ⟨_, c, hexec hm, hfacts⟩

end Sys2Proof.Machine
end

section
/-! SUPPORT. Forced completion, and the leading edge at the gauge (R50, R81, R85, R86). -/
namespace Sys2Proof.Machine

/-- A record that an identification has named, or left: nothing is measured or judged. -/
structure Book.Named (b c : Book) : Prop where
  kept : { c with ident := b.ident, binding := b.binding, badRead := b.badRead, tmpl := b.tmpl
                  reason := b.reason } = b
  reason : c.binding = some .bound → c.reason = b.reason

theorem State.book?_unbind_named {s : State} {r : Nat} {b : Book} (hb : s.book? r = some b)
    (why : Reason) : ∃ c, (s.unbind r why).book? r = some c ∧ b.Named c := by
  unfold State.unbind
  refine ⟨_, (State.book?_updBook_self s r _ fun d => ?_).trans (congrArg (Option.map _) hb), ?_⟩
  · split
    · split <;> rfl
    · rfl
  · dsimp only
    split
    · split <;> [exact ⟨rfl, nofun⟩; exact ⟨rfl, nofun⟩; exact ⟨rfl, fun _ => rfl⟩;
        exact ⟨rfl, fun _ => rfl⟩]
    · exact ⟨rfl, fun _ => rfl⟩

theorem named_identifyAs {s : State} {r : Nat} {i : Ident} {b : Book} (hb : s.book? r = some b)
    (hlife : b.life = .gauging) : ∃ c, (s.identifyAs r i).book? r = some c ∧ b.Named c := by
  unfold State.identifyAs
  rw [hb]
  dsimp only
  split
  · split
    · exact State.book?_unbind_named hb _
    · exact ⟨_, (State.book?_updBook_self s r (fun b => { b with binding := some .early })
        fun _ => rfl).trans (congrArg (Option.map _) hb), rfl, nofun⟩
    · next o _ =>
      have hbound : (s.bindBook r i o).book? r =
          some { b with binding := some .bound, tmpl := some o.tmpl } :=
        (State.book?_updBook_self s r (fun b => { b with binding := some .bound, tmpl := some o.tmpl })
          fun _ => rfl).trans (congrArg (Option.map _) hb)
      rw [State.bind_eq, hbound]
      dsimp only
      rw [if_neg (by simp [Book.gauged, hlife])]
      exact ⟨_, hbound, rfl, fun _ => rfl⟩
  · exact ⟨b, hb, rfl, fun _ => rfl⟩

theorem named_identifyWindow {s : State} {r : Nat} {b : Book} (w : ReadWindow) (hb : s.book? r = some b)
    (hlife : b.life = .gauging) : ∃ c, (s.identifyWindow r w).book? r = some c ∧ b.Named c := by
  let mark (d : Book) : Book := { d with badRead := d.badRead || w.bad }
  have hmarked : (s.updBook r mark).book? r = some (mark b) :=
    (State.book?_updBook_self s r mark fun _ => rfl).trans (congrArg (Option.map _) hb)
  have hunread (why : Reason) : ∃ c, ((s.updBook r mark).unbind r why).book? r = some c ∧ b.Named c := by
    obtain ⟨c, hc, hnamed⟩ := State.book?_unbind_named hmarked why
    exact ⟨c, hc, (congrArg (fun d : Book => { d with badRead := b.badRead }) hnamed.kept :),
      hnamed.reason⟩
  unfold State.identifyWindow
  dsimp only
  split
  · exact hunread _
  · split
    · next i rest _ _ =>
      let name (d : Book) : Book := { d with ident := some i }
      have hname : ((s.updBook r mark).updBook r name).book? r = some (name (mark b)) :=
        (State.book?_updBook_self _ r name fun _ => rfl).trans (congrArg (Option.map _) hmarked)
      obtain ⟨c, hc, hnamed⟩ := named_identifyAs (i := i) hname hlife
      exact ⟨c, hc, (congrArg (fun d : Book => { d with ident := b.ident, badRead := b.badRead })
        hnamed.kept :), hnamed.reason⟩
    · exact hunread _

/-- The read window of a record that is gauged, closed. -/
theorem closeWindow_named {s : State} {g : Gauging} {b : Book} (hg : s.gauge.current = some g)
    (hb : s.book? g.slot = some b) (hlife : b.life = .gauging) :
    s.closeWindow.gauge.current = some { g with window := none } ∧
      ∃ x, s.closeWindow.book? g.slot = some x ∧ b.Named x := by
  cases hw : g.window with
  | none =>
    have hself : s.closeWindow = s := by simp only [State.closeWindow, hg, hw]
    rw [hself, hg, ← hw]
    exact ⟨rfl, b, hb, rfl, fun _ => rfl⟩
  | some w =>
    rw [State.closeWindow_eq hg hw]
    exact ⟨congrArg GaugeUnit.current (State.gauge_identifyWindow _ _ _),
      named_identifyWindow (s := s.setGauging (some { g with window := none })) w hb hlife⟩

theorem State.endLength_spec {s : State} {g : Gauging} (hg : s.gauge.current = some g) :
    ∃ l, l.isEnded = true ∧ s.endLength = s.setGauging (some { g with length := l }) := by
  cases hlength : g.length with
  | inProgress => exact ⟨.ended none, rfl, by simp only [State.endLength, hg, hlength]⟩
  | ended t =>
    refine ⟨.ended t, rfl, ?_⟩
    have hself : s.endLength = s := by simp only [State.endLength, hg, hlength]
    rw [hself, ← hlength, State.setGauging, ← hg]

/-- A record is forced to complete: `x` is what its window, if one is open, has made of it. -/
theorem forceCompletion_spec {s : State} {g : Gauging} {b : Book} (hg : s.gauge.current = some g)
    (hb : s.book? g.slot = some b) (hlife : b.life = .gauging) :
    s.forceCompletion.gauge.current = none ∧ s.forceCompletion.orders = s.closeWindow.orders ∧
      ∃ x limit, s.closeWindow.book? g.slot = some x ∧ b.Named x ∧
        s.forceCompletion.book? g.slot = some (x.settled.finished limit) := by
  obtain ⟨hcurrent, x, hx, hnamed⟩ := closeWindow_named hg hb hlife
  obtain ⟨l, hended, hlength⟩ := State.endLength_spec
    (s := s.closeWindow.updBook g.slot Book.settled) hcurrent
  have hsettled := State.book?_settled hx
  have heq : s.forceCompletion = ((s.closeWindow.updBook g.slot Book.settled).setGauging
      (some { g with window := none, length := l })).completionTest := by
    unfold State.forceCompletion
    rw [State.settleSamples_eq hcurrent]
    exact congrArg State.completionTest hlength
  have horders : ((s.closeWindow.updBook g.slot Book.settled).setGauging
    (some { g with window := none, length := l })).orders = s.closeWindow.orders := rfl
  have hgauge : ((s.closeWindow.updBook g.slot Book.settled).setGauging
    (some { g with window := none, length := l })).gauge.current =
      some { g with window := none, length := l } := rfl
  have hbook : ((s.closeWindow.updBook g.slot Book.settled).setGauging
    (some { g with window := none, length := l })).book? g.slot = some x.settled := hsettled
  rw [heq]
  generalize (s.closeWindow.updBook g.slot Book.settled).setGauging
    (some { g with window := none, length := l }) = u at horders hgauge hbook
  rw [(completionTest_settled hgauge hbook hended (all_isSome_settleInvalid _)).2 rfl]
  exact ⟨rfl, horders, x, _, hx, hnamed, State.book?_finishGauging hbook⟩

end Sys2Proof.Machine
end

section
/-! SUPPORT. The leading edge at the gauge (R50, R51, R81, R85, R86). -/
namespace Sys2Proof.Machine

theorem State.free_of_book?_none {s : State} {r : Nat} (h : s.book? r = none) :
    ∀ b ∈ s.table.books, b.slot ≠ r := by
  intro b hb hr
  have hno := List.find?_eq_none.1 h b hb
  exact hno (beq_iff_eq.2 hr)

theorem State.lowestFreeSlot?_eq_some {s : State} {r : Nat} (h1 : 1 ≤ r) (h96 : r ≤ 96)
    (hfree : s.book? r = none) (hbelow : ∀ k, 1 ≤ k → k < r → s.book? k ≠ none) :
    s.lowestFreeSlot? = some r := by
  refine find?_counted h1 h96 ?_ fun k hk hkr => ?_
  · simpa using State.free_of_book?_none hfree
  · obtain ⟨b, hb⟩ := Option.ne_none_iff_exists'.1 (hbelow k hk hkr)
    simpa using ⟨b, State.mem_of_book? hb, State.slot_of_book? hb⟩

theorem State.lowestFreeSlot?_eq_none {s : State} (h : ∀ k, 1 ≤ k → k ≤ 96 → s.book? k ≠ none) :
    s.lowestFreeSlot? = none := by
  rw [State.lowestFreeSlot?, List.find?_eq_none]
  intro n hn
  obtain ⟨k, hk, rfl⟩ := List.mem_map.1 hn
  rw [List.mem_range] at hk
  obtain ⟨b, hb⟩ := Option.ne_none_iff_exists'.1 (h (k + 1) (by omega) (by omega))
  simpa using ⟨b, State.mem_of_book? hb, State.slot_of_book? hb⟩

/-- An edge less than the minimum pitch after the last (R51). -/
theorem State.crowdTest_crowded {s : State} {n : Count}
    (h : ∃ l, s.table.lastLead = some l ∧ sdiff n l < (s.cfg.minPitch : Int)) :
    s.crowdTest n = { s.fault .a .crowded with table := { s.table with lastLead := some n } } := by
  obtain ⟨l, hl, hlt⟩ := h
  unfold State.crowdTest
  rw [hl]
  dsimp only
  rw [if_pos (decide_eq_true hlt), State.fault_table]

theorem State.crowdTest_apart {s : State} {n : Count}
    (h : ¬ ∃ l, s.table.lastLead = some l ∧ sdiff n l < (s.cfg.minPitch : Int)) :
    s.crowdTest n = { s with table := { s.table with lastLead := some n } } := by
  unfold State.crowdTest
  cases hl : s.table.lastLead with
  | none => rfl
  | some l =>
    have hge : ¬ sdiff n l < (s.cfg.minPitch : Int) := fun hlt => h ⟨l, hl, hlt⟩
    simp only [decide_eq_false hge, Bool.false_eq_true, if_false]

/-- What the test of the pitch leaves. -/
structure Crowds (n : Count) (s e : State) : Prop where
  line : Line s e
  table : e.table = { s.table with lastLead := some n }
  orders : e.orders = s.orders
  gauge : e.gauge = s.gauge
  trk : e.trk = s.trk

theorem crowds_crowdTest (s : State) (n : Count) : Crowds n s (s.crowdTest n) := by
  have hline := line_crowdTest s n
  by_cases h : ∃ l, s.table.lastLead = some l ∧ sdiff n l < (s.cfg.minPitch : Int)
  · rw [State.crowdTest_crowded h] at hline ⊢
    exact ⟨hline, rfl, State.fault_orders s _ _, State.fault_gauge s _ _, State.fault_trk s _ _⟩
  · rw [State.crowdTest_apart h] at hline ⊢
    exact ⟨hline, rfl, rfl, rfl, rfl⟩

/-- A leading edge when the pitch has been tested. -/
def State.edgeTaken (e : State) (n : Count) : State :=
  match e.lowestFreeSlot? with
  | some slot =>
    if e.table.transit.length < 8 then
      let t := (e.createBook slot n).takeGauging slot e.table.nextSeq
      (if e.table.transit.isEmpty then t.newHead .stagingEntry else t).follow
    else e.fault .a .untracked
  | none => e.fault .a .untracked

theorem State.gaugeLeading_eq (s : State) : s.gaugeLeading =
    ((s.noteEdge .gauge).crowdTest (s.belt .a).count).edgeTaken (s.belt .a).count := rfl

theorem State.edgeTaken_untracked {e : State} (n : Count)
    (h : (∀ k, 1 ≤ k → k ≤ 96 → e.book? k ≠ none) ∨ 8 ≤ e.table.transit.length) :
    e.edgeTaken n = e.fault .a .untracked := by
  unfold State.edgeTaken
  rcases h with hfull | hlong
  · rw [State.lowestFreeSlot?_eq_none hfull]
  · split
    · exact if_neg (Nat.not_lt.2 hlong)
    · rfl

/-- The state with a new record in gauging. -/
def State.gaugingTaken (e : State) (slot : Nat) (n : Count) : State :=
  (e.createBook slot n).takeGauging slot e.table.nextSeq

theorem State.edgeTaken_room {e : State} {slot : Nat} {n : Count} (hslot : e.lowestFreeSlot? = some slot)
    (hroom : e.table.transit.length < 8)
    (hbefore : e.table.transit = [] → (e.gaugingTaken slot n).Before .stagingEntry) :
    e.edgeTaken n = (if e.table.transit = [] then (e.gaugingTaken slot n).setOpened .stagingEntry false
      else e.gaugingTaken slot n).follow := by
  unfold State.edgeTaken
  rw [hslot]
  dsimp only
  rw [if_pos hroom]
  by_cases hempty : e.table.transit = []
  · rw [if_pos hempty, if_pos (by rw [hempty]; rfl)]
    exact congrArg State.follow (newHead_before (hbefore hempty))
  · rw [if_neg hempty, if_neg (by simpa using hempty)]
    rfl

section
variable {e : State} {slot : Nat} {n : Count}

/-- A new record is read at its slot, and the others as before. -/
theorem State.book?_createBook_self (hfree : e.book? slot = none) :
    (e.createBook slot n).book? slot = some (newBook slot e.table.nextSeq e.clock n) := by
  show (e.table.books ++ [newBook slot e.table.nextSeq e.clock n]).find? _ = _
  rw [List.find?_append, show e.table.books.find? _ = none from hfree]
  simp [newBook]

theorem State.book?_createBook {r : Nat} {b : Book} (hb : e.book? r = some b) :
    (e.createBook slot n).book? r = some b := by
  show (e.table.books ++ [newBook slot e.table.nextSeq e.clock n]).find? _ = _
  rw [List.find?_append, show e.table.books.find? _ = some b from hb]
  rfl

/-- The new record stands before its window at the staging entry. -/
theorem before_gaugingTaken (hcount : (e.belt .a).count = n) (hwindow : e.cfg.window.a < e.cfg.dStage)
    (hdistance : e.cfg.dStage ≤ 32767) (htransit : e.table.transit = [])
    (hbook : (e.gaugingTaken slot n).book? slot = some (newBook slot e.table.nextSeq e.clock n))
    (hrest : (e.gaugingTaken slot n).table.transit = e.table.transit ++ [slot]) :
    (e.gaugingTaken slot n).Before .stagingEntry := by
  have hline : Line e (e.gaugingTaken slot n) :=
    (line_createBook e slot n).trans (line_takeGauging _ slot _)
  have hbelt : ((e.gaugingTaken slot n).belt .a).count = n :=
    (congrArg BeltState.count (hline.belts .a) :).trans hcount
  refine before_of_fresh (z := .a) ?_ ?_ fun b hhead => ?_
  · show (e.gaugingTaken slot n).cfg.window.a < (e.gaugingTaken slot n).cfg.dStage
    rw [hline.cfg]
    exact hwindow
  · show (e.gaugingTaken slot n).cfg.dStage ≤ 32767
    rw [hline.cfg]
    exact hdistance
  · have hserved : (e.gaugingTaken slot n).firstServed .stagingEntry = some slot := by
      show (e.gaugingTaken slot n).table.transit.head? = some slot
      rw [hrest, htransit]
      rfl
    rw [State.head?_eq hserved hbook hhead]
    exact congrArg (fun c => some (Belt.a, c)) hbelt.symm

/-- What a new record in gauging holds. -/
def newGauging (slot seq : Nat) : Gauging := ⟨slot, seq, .inProgress, some ⟨[], false⟩⟩

theorem State.gaugingTaken_first (hg : e.gauge.current = none) :
    e.gaugingTaken slot n = (e.createBook slot n).setGauging (some (newGauging slot e.table.nextSeq)) := by
  have hnone : (e.createBook slot n).gauge.current = none := hg
  obtain ⟨hcompletion, hclose, hend, hsettle⟩ := State.gauge_steps_none hnone
  have hforce : (e.createBook slot n).forceCompletion = e.createBook slot n := by
    unfold State.forceCompletion
    rw [hclose, hsettle, hend, hcompletion]
  exact congrArg (State.setGauging · (some (newGauging slot e.table.nextSeq))) hforce

/-- A new record takes the place of one in gauging, which is forced to complete. -/
structure Succeeds (slot : Nat) (n : Count) (g : Gauging) (b x : Book) (limit : Nat) (e t : State) :
    Prop where
  gauge : t.gauge = { e.gauge with current := some (newGauging slot e.table.nextSeq) }
  transit : t.table.transit = e.table.transit ++ [slot]
  outcomes : t.table.outcomes = e.table.outcomes
  taken : t.book? slot = some (newBook slot e.table.nextSeq e.clock n)
  completed : t.book? g.slot = some (x.settled.finished limit)
  named : b.Named x
  closed : (e.createBook slot n).closeWindow.book? g.slot = some x
  orders : t.orders = (e.createBook slot n).closeWindow.orders

theorem succeeds_gaugingTaken {g : Gauging} {b : Book} (hfree : e.book? slot = none)
    (hg : e.gauge.current = some g) (hb : e.book? g.slot = some b) (hlife : b.life = .gauging) :
    ∃ x limit, Succeeds slot n g b x limit e (e.gaugingTaken slot n) := by
  have hcreated : (e.createBook slot n).gauge.current = some g := hg
  have hbook := State.book?_createBook (slot := slot) (n := n) hb
  have htouches := (gauges_forceCompletion hcreated rfl).touches
  have hne : slot ≠ g.slot := fun h => by
    rw [h, hb] at hfree
    cases hfree
  have hnew := (htouches.others slot hne).trans (State.book?_createBook_self hfree)
  have htable := (congrArg State.table htouches.frame :)
  have hgauge := (congrArg State.gauge htouches.frame :)
  obtain ⟨-, horders, x, limit, hx, hnamed, hcompleted⟩ := forceCompletion_spec hcreated hbook hlife
  refine ⟨x, limit, ?_⟩
  unfold State.gaugingTaken State.takeGauging
  generalize (e.createBook slot n).forceCompletion = u at hnew htable hgauge horders hcompleted
  exact {
    gauge := (congrArg (fun k : GaugeUnit =>
      { k with current := some (newGauging slot e.table.nextSeq) }) hgauge :)
    transit := (congrArg BookTable.transit htable :)
    outcomes := (congrArg BookTable.outcomes htable :)
    taken := hnew
    completed := hcompleted
    named := hnamed
    closed := hx
    orders := horders }

theorem State.identified_createBook (i : Ident) : (e.createBook slot n).identified i = e.identified i := by
  refine State.identified_congr (s := e) (t := e.createBook slot n) rfl rfl (fun j => ?_) i
  show (e.table.books ++ [newBook slot e.table.nextSeq e.clock n]).any _ = e.table.books.any _
  rw [List.any_append]
  simp [newBook]

theorem State.SlotUnbound.createBook {r : Nat} (h : e.SlotUnbound r) :
    (e.createBook slot n).SlotUnbound r := by
  intro b hb hr
  rcases List.mem_append.1 hb with hmem | hnew
  · exact h b hmem hr
  · cases List.mem_singleton.1 hnew
    rfl

end

/-- What the window of the record forced to complete has given it. -/
theorem Succeeds.windowRead {s e t : State} {slot : Nat} {n : Count} {g : Gauging} {b x : Book}
    {limit : Nat} {w : ReadWindow} (h : Succeeds slot n g b x limit e t) (hs : s.SlotsAccounted)
    (hbooks : e.table.books = s.table.books) (horders : e.orders = s.orders)
    (hadmit : e.admitSet = s.admitSet) (hg : e.gauge.current = some g) (hb : e.book? g.slot = some b)
    (hlife : b.life = .gauging) (hw : g.window = some w) (hbinding : b.binding = none) :
    x.badRead = (b.badRead || w.bad) ∧
      (w.idents = [] → x.binding = some (.unbound .noRead) ∧ x.ident = b.ident) ∧
      (∀ i ∈ w.idents, ∀ j ∈ w.idents, i ≠ j →
        x.binding = some (.unbound .ambiguous) ∧ x.ident = b.ident) ∧
      (∀ i ∈ w.idents, (∀ j ∈ w.idents, j = i) → x.ident = some i ∧
        x.binding = some (s.identified i).binding ∧
        ∀ o, s.identified i = .boundTo o → x.tmpl = some o.tmpl) ∧
      ∀ why, x.binding = some (.unbound why) → x.reason = some (b.reason.getD why) := by
  have hbs : s.book? g.slot = some b := by
    rw [← hb]
    unfold State.book?
    rw [hbooks]
  have hslot : e.SlotUnbound g.slot := by
    have hunbound := hs.slotUnbound hbs hbinding
    unfold State.SlotUnbound at hunbound ⊢
    rwa [hbooks]
  have hsame (i : Ident) : (e.createBook slot n).identified i = s.identified i :=
    (State.identified_createBook i).trans
      (State.identified_congr horders hadmit (fun j => by unfold State.boundTwin; rw [hbooks]) i)
  obtain ⟨-, c, hc, hread⟩ := State.closeWindow_spec (s := e.createBook slot n) hg hw
    (State.book?_createBook hb) (by rw [hlife]; decide) hbinding hslot.createBook
  cases hc.symm.trans h.closed
  refine ⟨hread.badRead, hread.noRead, hread.ambiguous, fun i hi hone => ?_, hread.unbound⟩
  have hbind := hread.binding i hi hone
  have hbound := hread.bound i hi hone
  rw [hsame] at hbind hbound
  exact ⟨hread.ident i hi hone, hbind, fun o ho => (hbound o ho).1⟩

/-- Without an open window, the record forced to complete is what it was. -/
theorem Succeeds.closed_window {e t : State} {slot : Nat} {n : Count} {g : Gauging} {b x : Book}
    {limit : Nat} (h : Succeeds slot n g b x limit e t) (hg : e.gauge.current = some g)
    (hb : e.book? g.slot = some b) (hw : g.window = none) : x = b ∧ t.orders = e.orders := by
  have hclose : (e.createBook slot n).closeWindow = e.createBook slot n := by
    have hcreated : (e.createBook slot n).gauge.current = some g := hg
    simp only [State.closeWindow, hcreated, hw]
  have hclosed := h.closed
  have horders := h.orders
  rw [hclose] at hclosed horders
  exact ⟨(Option.some.inj ((State.book?_createBook hb).symm.trans hclosed)).symm, horders⟩

/-- What the completed record shows when the units have decided. -/
theorem Book.Decided.completed {b x c : Book} {limit : Nat} (hlife : b.life = .gauging)
    (hnamed : b.Named x) (h : (x.settled.finished limit).Decided c) :
    let settled := b.samples.map (fun x => some (x.getD .invalid))
    let valid := validSamples settled
    c.life = .toStaging ∧ c.samples = settled ∧ c.trail = b.trail ∧ c.lm = b.lm ∧
      c.position = b.position ∧
      (3 ≤ valid.length →
        c.thickness = some ((2 * valid.sum + valid.length) / (2 * valid.length))) ∧
      (c.binding = some .bound → c.tmpl ≠ none → valid.length < 3 ∨ b.lm = none →
        c.reason = some (b.reason.getD .gaugeFail)) := by
  intro settled valid
  have hkept := hnamed.kept
  obtain ⟨hsamples, htrail, hlm, hthickness⟩ := h.measured
  have hxlife : x.settled.life = .gauging := (congrArg Book.life hkept :).trans hlife
  have hxsamples : x.settled.samples = settled := (congrArg (fun d : Book => settleInvalid d.samples) hkept :)
  have hxlm : x.settled.lm = b.lm := (congrArg Book.lm hkept :)
  refine ⟨h.life.trans (Book.finished_life hxlife), ?_, ?_, ?_, ?_, fun hvalid => ?_,
    fun hbound htmpl hfail => ?_⟩
  · rw [hsamples, Book.finished_samples, hxsamples]
  · rw [htrail, Book.finished_trail]
    exact (congrArg Book.trail hkept :)
  · rw [hlm, Book.finished_lm, hxlm]
  · rw [h.position, Book.finished_position]
    exact (congrArg Book.position hkept :)
  · rw [hthickness]
    have hmean := Book.finished_thickness (b := x.settled) (limit := limit)
    rw [hxsamples] at hmean
    exact hmean hvalid
  · have hshows := (x.settled.shows_finished limit).trans h.shows
    have hxbound : x.settled.binding = some .bound := hshows.binding.symm.trans hbound
    have hreason := Book.finished_gaugeFail (b := x.settled) (limit := limit)
      (decide_eq_true (by rw [hxlife]; decide)) hxbound (fun hnone => htmpl (hshows.tmpl.trans hnone))
      (by rw [hxsamples, hxlm]; exact hfail)
    rw [← hnamed.reason hxbound]
    exact h.reason _ hreason

/-- Settles O37. -/
theorem gaugeLeadingEdge : Obligations.GaugeLeadingEdge := by
  intro s hm hwindow hdistance n crowded noted
  have hedge := crowds_crowdTest noted n
  have hexec : exec .gaugeLeadingEdge s = .next ((noted.crowdTest n).edgeTaken n) :=
    congrArg Host.Outcome.next (if_pos hm)
  refine ⟨noted.crowdTest n, fun h => State.crowdTest_crowded (s := noted) h,
    fun h => State.crowdTest_apart (s := noted) h, ?_⟩
  rw [hexec]
  generalize noted.crowdTest n = e at hedge
  have htable : e.table = { s.table with lastLead := some n } := hedge.table
  have horders : e.orders = s.orders := hedge.orders
  have hgauge : e.gauge = s.gauge := hedge.gauge
  have hopened : e.trk.opened = s.trk.opened := (congrArg Tracking.opened hedge.trk :)
  have hclock : e.clock = s.clock := hedge.line.clock
  have hcfg : e.cfg = s.cfg := hedge.line.cfg
  have hadmit : e.admitSet = s.admitSet := hedge.line.admitSet
  have hcount : (e.belt .a).count = n := (congrArg BeltState.count (hedge.line.belts .a) :)
  have hbooks : e.table.books = s.table.books := by rw [htable]
  have hbook (r : Nat) : e.book? r = s.book? r := by
    unfold State.book?
    rw [hbooks]
  have htransit : e.table.transit = s.table.transit := by rw [htable]
  have hseq : e.table.nextSeq = s.table.nextSeq := by rw [htable]
  clear_value noted
  clear hexec hedge
  refine ⟨fun slot h1 h96 hfree hbelow hroom => ?_, fun hfull => ?_⟩
  · have hslot : e.lowestFreeSlot? = some slot := State.lowestFreeSlot?_eq_some h1 h96
      ((hbook slot).trans hfree) fun k hk hkn => by rw [hbook]; exact hbelow k hk hkn
    have hroom' : e.table.transit.length < 8 := by rw [htransit]; exact hroom
    have hbefore (hnew : (e.gaugingTaken slot n).book? slot =
        some (newBook slot e.table.nextSeq e.clock n))
        (hrest : (e.gaugingTaken slot n).table.transit = e.table.transit ++ [slot])
        (hempty : e.table.transit = []) : (e.gaugingTaken slot n).Before .stagingEntry :=
      before_gaugingTaken hcount (by rw [hcfg]; exact hwindow) (by rw [hcfg]; exact hdistance) hempty
        hnew hrest
    refine ⟨fun hg => ?_, fun g b hs hg hb hlife => ?_⟩
    · have heq := State.gaugingTaken_first (e := e) (slot := slot) (n := n) (by rw [hgauge]; exact hg)
      have htaken := hbefore (by rw [heq]; exact State.book?_createBook_self ((hbook slot).trans hfree))
        (by rw [heq] <;> rfl)
      rw [State.edgeTaken_room hslot hroom' htaken]
      refine ⟨_, rfl, ?_⟩
      have hdec := decides_follow (if e.table.transit = [] then
        (e.gaugingTaken slot n).setOpened .stagingEntry false else e.gaugingTaken slot n)
      have hstart : (if e.table.transit = [] then
          (e.gaugingTaken slot n).setOpened .stagingEntry false else e.gaugingTaken slot n) = { e with
            table := { e.table with
              books := s.table.books ++ [newBook slot s.table.nextSeq s.clock n]
              nextSeq := if s.table.nextSeq = 4294967295 then 1 else s.table.nextSeq + 1
              transit := s.table.transit ++ [slot] }
            gauge := { s.gauge with current := some ⟨slot, s.table.nextSeq, .inProgress,
              some ⟨[], false⟩⟩ }
            trk := { e.trk with opened := { s.trk.opened with stagingEntry :=
              if s.table.transit = [] then false else s.trk.opened.stagingEntry } } } := by
        rw [heq, ← hbooks, ← htransit, ← hseq, ← hclock, ← hgauge, ← hopened]
        split <;> rfl
      rw [hstart] at hdec
      rwa [hstart]
    · intro settled valid
      obtain ⟨x, limit, hsucceeds⟩ := succeeds_gaugingTaken (n := n) ((hbook slot).trans hfree)
        (by rw [hgauge]; exact hg) ((hbook g.slot).trans hb) hlife
      have hge : e.gauge.current = some g := by rw [hgauge]; exact hg
      have hbe : e.book? g.slot = some b := (hbook g.slot).trans hb
      rw [State.edgeTaken_room hslot hroom' (hbefore hsucceeds.taken hsucceeds.transit)]
      have hstart : ∀ v, v = (if e.table.transit = [] then
          (e.gaugingTaken slot n).setOpened .stagingEntry false else e.gaugingTaken slot n) →
          v.gauge = (e.gaugingTaken slot n).gauge ∧ v.table = (e.gaugingTaken slot n).table ∧
            v.orders = (e.gaugingTaken slot n).orders := by
        rintro v rfl
        split <;> exact ⟨rfl, rfl, rfl⟩
      obtain ⟨hvgauge, hvtable, hvorders⟩ := hstart _ rfl
      generalize (if e.table.transit = [] then (e.gaugingTaken slot n).setOpened .stagingEntry false
        else e.gaugingTaken slot n) = v at hvgauge hvtable hvorders
      have hvbook (r : Nat) : v.book? r = (e.gaugingTaken slot n).book? r := by
        unfold State.book?
        rw [hvtable]
      have hdec := decides_follow v
      obtain ⟨c, hc, hcdecided⟩ := hdec.book?_eq ((hvbook g.slot).trans hsucceeds.completed)
      obtain ⟨d, hd, hddecided⟩ := hdec.book?_eq ((hvbook slot).trans hsucceeds.taken)
      rw [hseq, hclock] at hddecided
      obtain ⟨hclife, hsamples, htrail, hlm, hposition, hthickness, hfail⟩ :=
        hcdecided.completed hlife hsucceeds.named
      have hshows : x.settled.Shows c := (x.settled.shows_finished limit).trans hcdecided.shows
      refine ⟨v.follow, c, d, rfl, ?_, ?_, ?_, hd, hddecided, hc, hclife, hsamples, htrail, hlm,
        hposition, hthickness, hfail, fun hw => ?_, fun w hw hbinding => ?_⟩
      · rw [hdec.gauge, hvgauge, hsucceeds.gauge, hgauge, hseq]
        rfl
      · rw [hdec.transit, hvtable, hsucceeds.transit, htransit]
      · rw [hdec.outcomes, hvtable, hsucceeds.outcomes, htable]
      · obtain ⟨rfl, hos⟩ := hsucceeds.closed_window hge hbe hw
        exact ⟨hshows.ident, hshows.binding, hshows.badRead,
          hdec.orders.trans (hvorders.trans (hos.trans horders))⟩
      · obtain ⟨hbad, hnone, hambiguous, hone, hunbound⟩ := hsucceeds.windowRead hs hbooks horders
          hadmit hge hbe hlife hw hbinding
        refine ⟨hshows.badRead.trans hbad, fun hnil => ?_, fun i hi j hj hne => ?_,
          fun i hi hsingle => ?_, fun why hwhy => ?_⟩
        · obtain ⟨hbind, hident⟩ := hnone hnil
          exact ⟨hshows.binding.trans hbind, hshows.ident.trans hident⟩
        · obtain ⟨hbind, hident⟩ := hambiguous i hi j hj hne
          exact ⟨hshows.binding.trans hbind, hshows.ident.trans hident⟩
        · obtain ⟨hident, hbind, htmpl⟩ := hone i hi hsingle
          refine ⟨hshows.ident.trans hident, ?_, fun o ho => hshows.tmpl.trans (htmpl o ho)⟩
          exact hshows.binding.trans (hbind.trans (congrArg some (Identified.binding_eq _)))
        · have hxwhy : x.binding = some (.unbound why) := hshows.binding.symm.trans hwhy
          exact hshows.reason why _ hxwhy (hunbound why hxwhy)
  · rw [State.edgeTaken_untracked n (hfull.imp (fun h k hk hk96 => by rw [hbook]; exact h k hk hk96)
      (fun h => by rw [htransit]; exact h))]
    exact ⟨rfl, (State.fault_gauge e _ _).trans hgauge⟩

end Sys2Proof.Machine
end

section
/-! SUPPORT. Where the head of a watch point is expected: what leaves it (R66, R67). -/
namespace Sys2Proof.Machine

/-- The target of a record at a watch point, if it is one that may stand there. -/
def Book.aim (w : Watch) (cfg : Cfg) (b : Book) : Option Count :=
  if headState w b.life then b.position.map (fun p => p.2 + BitVec.ofNat 16 (watchDistance cfg w))
  else none

/-- The target of the head of a watch point. -/
def State.aim (s : State) (w : Watch) : Option Count := (s.target? w).map (·.2)

theorem State.aim_eq (s : State) (w : Watch) :
    s.aim w = (s.firstServed w).bind (fun r => (s.book? r).bind (Book.aim w s.cfg)) := by
  unfold State.aim State.target? State.head?
  cases s.firstServed w with
  | none => rfl
  | some r =>
    simp only [Option.bind_some]
    cases s.book? r with
    | none => rfl
    | some b =>
      simp only [Option.bind_some, Book.aim]
      by_cases h : headState w b.life = true
      · simp only [h, if_true, Option.map_map]
        rfl
      · simp only [h, Bool.false_eq_true, if_false, Option.map_none]

theorem State.aim_iff {s : State} {w : Watch} {target : Count} :
    s.aim w = some target ↔ ∃ b, s.target? w = some (b, target) := by
  unfold State.aim
  rw [Option.map_eq_some_iff]
  constructor
  · rintro ⟨⟨b, x⟩, h, rfl⟩
    exact ⟨b, h⟩
  · rintro ⟨b, h⟩
    exact ⟨_, h, rfl⟩

theorem State.aim_of_target? {s : State} {w : Watch} {b : Book} {target : Count}
    (h : s.target? w = some (b, target)) : s.aim w = some target := State.aim_iff.2 ⟨b, h⟩

theorem State.aim_eq_none {s : State} {w : Watch} : s.aim w = none ↔ s.target? w = none :=
  Option.map_eq_none_iff

theorem aim_congr {s t : State} {w : Watch} (hserved : t.firstServed w = s.firstServed w)
    (hcfg : t.cfg = s.cfg)
    (hbooks : ∀ r, (t.book? r).bind (Book.aim w s.cfg) = (s.book? r).bind (Book.aim w s.cfg)) :
    t.aim w = s.aim w := by
  rw [State.aim_eq, State.aim_eq, hserved, hcfg]
  exact congrArg _ (funext hbooks)

theorem Book.Decided.aim {b c : Book} (h : b.Decided c) (w : Watch) (cfg : Cfg) :
    c.aim w cfg = b.aim w cfg := by
  unfold Book.aim
  rw [h.life, h.position]

theorem Decides.book?_none {s t : State} (h : Decides s t) {r : Nat} (hr : s.book? r = none) :
    t.book? r = none := by
  have hslots : s.table.books.map (·.slot) = t.table.books.map (·.slot) := by
    rw [← List.forall₂_eq_eq_eq, List.forall₂_map_left_iff, List.forall₂_map_right_iff]
    exact h.books.imp fun _ _ hdecided => hdecided.slot.symm
  refine List.find?_eq_none.2 fun c hc hcr => ?_
  have hmem : c.slot ∈ s.table.books.map (·.slot) := hslots ▸ List.mem_map_of_mem hc
  obtain ⟨b, hb, hbc⟩ := List.mem_map.1 hmem
  exact State.free_of_book?_none hr b hb (hbc.trans (eq_of_beq hcr))

/-- The units' decisions leave every head at its target. -/
theorem Decides.aim {s t : State} (h : Decides s t) (w : Watch) : t.aim w = s.aim w := by
  refine aim_congr ?_ h.cfg fun r => ?_
  · cases w with
    | stagingEntry => exact congrArg List.head? h.transit
    | casing => exact h.casing
    | pressEntry => exact congrArg List.head? h.pressApproach
    | jacket => exact congrArg List.head? h.jacketApproach
    | outfeed => exact congrArg List.head? h.delivery
  · cases hb : s.book? r with
    | none => rw [h.book?_none hb]
    | some b =>
      obtain ⟨c, hc, hdecided⟩ := h.book?_eq hb
      rw [hc]
      exact hdecided.aim w s.cfg

/-- A record that is forced to complete stays at its target. -/
theorem Touches.aim {r : Nat} {s t : State} {b c : Book} {w : Watch} (h : Touches r s t)
    (hb : s.book? r = some b) (hc : t.book? r = some c)
    (hlife : headState w c.life = headState w b.life) (hposition : c.position = b.position) :
    t.aim w = s.aim w := by
  have htable := (congrArg State.table h.frame :)
  have hstg := (congrArg State.stg h.frame :)
  refine aim_congr ?_ (congrArg State.cfg h.frame :) fun q => ?_
  · cases w with
    | stagingEntry => exact congrArg List.head? (congrArg BookTable.transit htable :)
    | casing => exact congrArg (fun u : StagingUnit => u.casing.record?) hstg
    | pressEntry => exact congrArg List.head? (congrArg BookTable.pressApproach htable :)
    | jacket => exact congrArg List.head? (congrArg BookTable.jacketApproach htable :)
    | outfeed => exact congrArg List.head? (congrArg BookTable.delivery htable :)
  · by_cases hq : q = r
    · subst hq
      rw [hb, hc]
      simp only [Option.bind_some, Book.aim, hlife, hposition]
    · rw [h.others q hq]

theorem State.aim_setOpened (s : State) (w x : Watch) (v : Bool) : (s.setOpened x v).aim w = s.aim w := by
  cases w <;> rfl

/-- A record with the lane that R142 gives it. -/
def Book.laned (b : Book) (taken : Bool) : Book :=
  { b with lane := some (laneOf b taken), proof := b.proof || takesProof b taken }

/-- The lane decision of a record without a lane. -/
theorem setLane_spec {s : State} {b : Book} (hb : s.book? b.slot = some b) (h : b.lane = none) :
    (s.setLane b).book? b.slot = some (b.laned (s.proofTaken b)) ∧
      (s.setLane b).dlv.gate = laneOf b (s.proofTaken b) ∧ (s.setLane b).trk = s.trk ∧
      (s.setLane b).orders = (s.noteProof b (takesProof b (s.proofTaken b))).orders := by
  have hput : (s.putLane b).book? b.slot = some (b.laned (s.proofTaken b)) :=
    (State.book?_updBook_self s b.slot (fun x => { x with
      lane := some (laneOf b (s.proofTaken b)), proof := x.proof || takesProof b (s.proofTaken b) })
      fun _ => rfl).trans (congrArg (Option.map _) hb)
  have hnote (u : State) (takes : Bool) : (u.noteProof b takes).table = u.table ∧
      (u.noteProof b takes).trk = u.trk := by
    unfold State.noteProof
    split
    · split <;> exact ⟨rfl, rfl⟩
    · exact ⟨rfl, rfl⟩
  rw [State.setLane_eq h]
  refine ⟨?_, rfl, ?_, ?_⟩
  · show ((s.putLane b).noteProof b _).book? b.slot = _
    rw [← hput, State.book?, (hnote _ _).1]
    rfl
  · exact (hnote _ _).2
  · show ((s.putLane b).noteProof b _).orders = _
    unfold State.noteProof
    split
    · split <;> rfl
    · rfl

theorem State.book?_setOpened (s : State) (w : Watch) (v : Bool) (r : Nat) :
    (s.setOpened w v).book? r = s.book? r := rfl

/-- A window that opens leaves its head at its target. -/
theorem aim_openWindow {u : State} {w : Watch} {b : Book} (hb : u.head? w = some b) :
    (u.openWindow w b).aim w = u.aim w := by
  have hbook := State.book?_of_head? hb
  have hlife := State.life_of_head? hb
  cases w with
  | casing | pressEntry | jacket => exact State.aim_setOpened u _ _ true
  | outfeed =>
    show ((u.setOpened .outfeed true).setLane b).aim .outfeed = _
    rw [← State.aim_setOpened u .outfeed .outfeed true]
    cases hl : b.lane with
    | some l => rw [State.setLane_set hl]
    | none =>
      obtain ⟨hread, -⟩ := setLane_spec (s := u.setOpened .outfeed true) hbook hl
      have hlane : Touches b.slot (u.setOpened .outfeed true) { (u.setOpened .outfeed true).setLane b with
          dlv := (u.setOpened .outfeed true).dlv } := by
        rw [State.setLane_eq hl]
        have htouches := (touches_noteProof ((u.setOpened .outfeed true).putLane b) b.slot b
          (takesProof b ((u.setOpened .outfeed true).proofTaken b))).after
          (touches_updBook (u.setOpened .outfeed true) b.slot fun _ => rfl)
        exact ⟨(congrArg (fun t : State => { t with dlv := (u.setOpened .outfeed true).dlv })
          htouches.frame :), htouches.others, htouches.own⟩
      have haim := hlane.aim (w := .outfeed) hbook hread rfl rfl
      exact haim
  | stagingEntry =>
    have hopened := State.aim_setOpened u .stagingEntry .stagingEntry true
    unfold State.openWindow
    dsimp only
    split
    · next g hg =>
      split
      · next hcond =>
        obtain ⟨hslot, hgauging⟩ := hcond
        have hgbook : (u.setOpened .stagingEntry true).book? g.slot = some b := by
          rw [hslot]
          exact hbook
        obtain ⟨-, -, x, limit, -, hnamed, hread⟩ := forceCompletion_spec hg hgbook hgauging
        have hkept := hnamed.kept
        have hxlife : x.settled.life = .gauging := (congrArg Book.life hkept :).trans hgauging
        refine ((gauges_forceCompletion hg rfl).touches.aim hgbook hread ?_ ?_).trans hopened
        · rw [Book.finished_life hxlife, hgauging]
          rfl
        · exact Book.finished_position.trans (congrArg Book.position hkept :)
      · exact hopened
    · exact hopened

/-- The head that has been tested is where it was. -/
theorem State.HeadTested.aim {w : Watch} {u t : State} (h : u.HeadTested w t) : t.aim w = u.aim w := by
  unfold State.HeadTested at h
  split at h
  · rw [h]
  · next b target ht =>
    split at h
    · split at h
      · rw [h]
      · rw [h]
        exact aim_openWindow (State.head?_of_target? ht)
    · rw [h.2]

end Sys2Proof.Machine
end

section
/-! SUPPORT. WATCH_WINDOW_OPEN and HEAD_MISSING (R67, R70, R71, R113, R142). -/
namespace Sys2Proof.Machine

theorem State.openTest_eq {s : State} {w : Watch} {b : Book} {target : Count}
    (ht : s.target? w = some (b, target)) : s.openTest w =
      if s.inWindow w target = true ∧ s.trk.opened.get w = false then s.openWindow w b else s := by
  unfold State.openTest
  rw [ht]
  simp only [Bool.and_eq_true, Bool.not_eq_true']

/-! ### The lane of R142 -/

section
variable {b : Book} {taken : Bool}

theorem lane_of_reason (h : b.reason ≠ none) : laneOf b taken = .reject ∧ takesProof b taken = false := by
  obtain ⟨why, hwhy⟩ := Option.ne_none_iff_exists'.1 h
  simp [laneOf, takesProof, hwhy]

theorem lane_of_unjacketed (h : b.reason = none) (hjacket : b.tmpl.map (·.jacket) = some .required)
    (hresult : b.jacketResult = some .unjacketed) :
    laneOf b taken = .inspect ∧ takesProof b taken = false := by
  simp [laneOf, takesProof, Book.jacketRequired, h, hjacket, hresult]

theorem lane_of_proof (h : b.reason = none)
    (hjacket : ¬ (b.tmpl.map (·.jacket) = some .required ∧ b.jacketResult = some .unjacketed))
    (hproof : b.tmpl.map (·.proofFirst) = some true) (htaken : taken = false) :
    laneOf b taken = .inspect ∧ takesProof b taken = true := by
  have hbool : (b.jacketRequired && decide (b.jacketResult = some .unjacketed)) = false := by
    rw [Bool.eq_false_iff, Ne, Book.jacketRequired, Bool.and_eq_true, decide_eq_true_eq,
      decide_eq_true_eq]
    exact hjacket
  simp [laneOf, takesProof, hbool, h, hproof, htaken]

theorem lane_of_good (h : b.reason = none)
    (hjacket : ¬ (b.tmpl.map (·.jacket) = some .required ∧ b.jacketResult = some .unjacketed))
    (hproof : b.tmpl.map (·.proofFirst) ≠ some true ∨ taken = true) :
    laneOf b taken = .good ∧ takesProof b taken = false := by
  have hbool : (b.jacketRequired && decide (b.jacketResult = some .unjacketed)) = false := by
    rw [Bool.eq_false_iff, Ne, Book.jacketRequired, Bool.and_eq_true, decide_eq_true_eq,
      decide_eq_true_eq]
    exact hjacket
  rcases hproof with hp | hp <;> simp [laneOf, takesProof, hbool, h, hp]

end

theorem State.proofTaken_iff {s : State} {b : Book} : s.proofTaken b = true ↔
    ∃ n o, b.order? = some n ∧ s.order? n = some o ∧ o.proofTaken = true := by
  unfold State.proofTaken
  cases hn : b.order? with
  | none => simp
  | some n =>
    cases ho : s.order? n with
    | none => simp [ho]
    | some o => simp [ho]

theorem State.order?_noteProof {s : State} {b : Book} {n : Nat} {o : Order} (hn : b.order? = some n)
    (ho : s.order? n = some o) :
    (s.noteProof b true).order? n = some { o with proofTaken := true } := by
  unfold State.noteProof
  rw [if_pos rfl, hn]
  dsimp only
  rw [State.order?_updOrder s n n (fun o => { o with proofTaken := true }) fun _ => rfl, ho, Option.map_some,
    if_pos (beq_iff_eq.2 (State.number_of_order? ho))]

theorem State.order?_congr {s t : State} (h : t.orders = s.orders) (n : Nat) :
    t.order? n = s.order? n := by
  unfold State.order?
  rw [h]

/-- WATCH_WINDOW_OPEN at the outfeed, for a record without a lane. -/
theorem outfeedWindow {s : State} {b : Book} (hb : s.head? .outfeed = some b) (hlane : b.lane = none) :
    let taken := ∃ n o, b.order? = some n ∧ s.order? n = some o ∧ o.proofTaken = true
    let t := (s.openWindow .outfeed b).follow
    ∃ (c : Book) (l : Lane), t.trk.opened.get .outfeed = true ∧ t.book? b.slot = some c ∧
      c.lane = some l ∧ t.dlv.gate = l ∧
      (b.reason ≠ none → l = .reject ∧ c.proof = b.proof ∧ t.orders = s.orders) ∧
      (b.reason = none → b.tmpl.map (·.jacket) = some .required →
        b.jacketResult = some .unjacketed → l = .inspect ∧ c.proof = b.proof ∧ t.orders = s.orders) ∧
      (b.reason = none →
        ¬ (b.tmpl.map (·.jacket) = some .required ∧ b.jacketResult = some .unjacketed) →
        (b.tmpl.map (·.proofFirst) = some true → ¬ taken → l = .inspect ∧ c.proof = true ∧
          ∀ n o, b.order? = some n → s.order? n = some o →
            t.order? n = some { o with proofTaken := true }) ∧
        (b.tmpl.map (·.proofFirst) ≠ some true ∨ taken →
          l = .good ∧ c.proof = b.proof ∧ t.orders = s.orders)) := by
  intro taken t
  have hbook : (s.setOpened .outfeed true).book? b.slot = some b :=
    State.book?_of_head? (s := s) hb
  obtain ⟨hread, hgate, htrk, horders⟩ := setLane_spec hbook hlane
  have hdec : Decides (s.openWindow .outfeed b) t := decides_follow _
  obtain ⟨c, hc, hdecided⟩ := hdec.book?_eq hread
  have hproof : c.proof = (b.proof || takesProof b (s.proofTaken b)) :=
    (congrArg Book.proof hdecided.fixed :)
  have hos : t.orders = (s.noteProof b (takesProof b (s.proofTaken b))).orders := by
    refine (hdec.orders.trans horders).trans ?_
    show ((s.setOpened .outfeed true).noteProof b (takesProof b (s.proofTaken b))).orders = _
    unfold State.noteProof
    split
    · split <;> rfl
    · rfl
  have hkeeps (h : takesProof b (s.proofTaken b) = false) : c.proof = b.proof ∧ t.orders = s.orders := by
    rw [h] at hproof hos
    exact ⟨hproof.trans (Bool.or_false _), hos⟩
  refine ⟨c, laneOf b (s.proofTaken b), ?_, hc, (congrArg Book.lane hdecided.fixed :),
    hdec.gate.trans hgate, fun h => ?_, fun h hj hr => ?_, fun h hj => ⟨fun hp hnot => ?_, fun hp => ?_⟩⟩
  · rw [hdec.opened, (opens_openWindow s .outfeed b).trk]
    rfl
  · obtain ⟨hl, htakes⟩ := lane_of_reason (taken := s.proofTaken b) h
    exact ⟨hl, hkeeps htakes⟩
  · obtain ⟨hl, htakes⟩ := lane_of_unjacketed (taken := s.proofTaken b) h hj hr
    exact ⟨hl, hkeeps htakes⟩
  · have hfalse : s.proofTaken b = false := Bool.eq_false_iff.2 fun ht => hnot (State.proofTaken_iff.1 ht)
    obtain ⟨hl, htakes⟩ := lane_of_proof h hj hp hfalse
    rw [htakes] at hproof hos
    refine ⟨hl, hproof.trans (Bool.or_true _), fun n o hn ho => ?_⟩
    rw [State.order?_congr hos]
    exact State.order?_noteProof hn ho
  · obtain ⟨hl, htakes⟩ := lane_of_good h hj (hp.imp_right State.proofTaken_iff.2)
    exact ⟨hl, hkeeps htakes⟩

end Sys2Proof.Machine
end

section
/-! SUPPORT. HEAD_MISSING, and the heads that come after a missing one (R71, R113). -/
namespace Sys2Proof.Machine

theorem State.missingTest_eq {s : State} {w : Watch} {b : Book} {target : Count}
    (ht : s.target? w = some (b, target)) : s.missingTest w =
      if (s.belt (watchBelt w)).direction = .forward ∧ (s.belt (watchBelt w)).counted = true ∧
        sdiff (s.belt (watchBelt w)).count target = (s.cfg.window.get (watchBelt w) : Int) + 1
      then (s.loseHead w b).testHead s.headFuel w else s := by
  unfold State.missingTest
  rw [ht]
  dsimp only
  congr 1
  rw [Bool.and_eq_true, State.movingForward_iff, decide_eq_true_eq, and_assoc]

/-- A head is missing: it is lost, and with it each next head beyond its window. -/
theorem missing_spec {s : State} {w : Watch} {b : Book} {target : Count}
    (ht : s.target? w = some (b, target))
    (hbeyond : (s.cfg.window.get (watchBelt w) : Int) < sdiff (s.belt (watchBelt w)).count target)
    {fuel : Nat} (hfuel : s.table.books.length ≤ fuel) :
    ∃ more u, Loses w (s.Beyond w) (b.slot :: more) s u ∧
      u.HeadTested w ((s.loseHead w b).testHead fuel w) := by
  have hb := State.head?_of_target? ht
  obtain ⟨p, hp, rfl⟩ := State.position_of_target? ht
  have hfirst : Loses w (s.Beyond w) [b.slot] s (s.loseHead w b) :=
    loses_loseHead hb ⟨p, hp, hbeyond⟩
  obtain ⟨more, u, hmore, htested⟩ := testHead_spec (w := w) fuel
    ((headCount_loseHead hb).trans_le (List.countP_le_length.trans hfuel))
  rw [hfirst.beyond] at hmore
  exact ⟨more, u, hfirst.trans hmore, htested⟩

/-- The opened flag stands just when the head lies within its window. -/
theorem State.HeadTested.opened_iff {w : Watch} {u t : State} (h : u.HeadTested w t)
    (hclosed : u.trk.opened.get w = false) : t.trk.opened.get w = true ↔
      ∃ target, u.aim w = some target ∧ u.inWindow w target = true := by
  unfold State.HeadTested at h
  split at h
  · next hnone =>
    rw [h, hclosed, State.aim_eq_none.2 hnone]
    simp
  · next b target ht =>
    have haim := State.aim_of_target? ht
    split at h
    · next hin =>
      rw [hclosed, if_neg Bool.false_ne_true] at h
      have hopens := opens_openWindow u w b
      rw [← h] at hopens
      have htrue : t.trk.opened.get w = true := by
        rw [hopens.trk]
        exact (PerWatch.get_set _ _ _ _).trans (if_pos rfl)
      exact ⟨fun _ => ⟨target, haim, hin⟩, fun _ => htrue⟩
    · next hout =>
      rw [h.2, hclosed]
      refine ⟨nofun, fun ⟨x, hx, hin⟩ => ?_⟩
      cases haim.symm.trans hx
      exact absurd hin hout

/-- The head that has been tested does not lie beyond its window. -/
theorem State.HeadTested.not_beyond {w : Watch} {u t : State} (h : u.HeadTested w t) {target : Count}
    (haim : u.aim w = some target) :
    sdiff (u.belt (watchBelt w)).count target ≤ (u.cfg.window.get (watchBelt w) : Int) := by
  obtain ⟨b, ht⟩ := State.aim_iff.1 haim
  unfold State.HeadTested at h
  rw [ht] at h
  dsimp only at h
  split at h
  · next hin => exact (of_decide_eq_true hin).2
  · have hlow := h.1
    omega

theorem ZoneCtl.reports_state {α : Type} (l : List α) (a : α) (k : ZoneCtl) (c : FaultCode) :
    ((a :: l).foldl (fun k _ => k.reported c) k).state =
      if k.state = .tripped then .tripped else .faulted := by
  rw [List.foldl_cons, (ZoneCtl.reports_faulted l c (k.reported_holds c)).1, k.reported_state]

theorem ZoneCtl.reports_code {α : Type} (l : List α) (a : α) {k : ZoneCtl} (c : FaultCode)
    (hf : k.state ≠ .faulted) (ht : k.state ≠ .tripped) :
    ((a :: l).foldl (fun k _ => k.reported c) k).code = some c := by
  rw [List.foldl_cons, (ZoneCtl.reports_faulted l c (k.reported_holds c)).2]
  rcases k with ⟨state, code, further⟩
  cases state with
  | faulted => exact absurd rfl hf
  | tripped => exact absurd rfl ht
  | _ => rfl

theorem Decides.belt_count {s t : State} (h : Decides s t) (z : Belt) :
    (t.belt z).count = (s.belt z).count := (congrArg BeltState.count (h.belts z) :)

theorem State.inWindow_congr {s t : State} {w : Watch} (hcfg : t.cfg = s.cfg)
    (hcount : (t.belt (watchBelt w)).count = (s.belt (watchBelt w)).count) (target : Count) :
    t.inWindow w target = s.inWindow w target := by
  unfold State.inWindow
  rw [hcfg, hcount]

theorem State.follow_cases {s : State} (h : s.zoneState .b ≠ .running) :
    s.follow.stg.cases = s.stg.cases := by
  have hzone : s.bpTests.casingReleaseTest.zoneState .b ≠ .running := by
    rw [State.zoneState, State.casingReleaseTest_zones]
    exact h
  unfold State.follow State.announce
  rw [State.drainTests_stg_cases, State.jacketReleaseTest_stg, State.jacketDecide_stg,
    State.stagingDecide_none (.inl hzone), State.casingReleaseTest_cases]
  rfl

theorem State.firstServed_of_head? {s : State} {w : Watch} {b : Book} (h : s.head? w = some b) :
    s.firstServed w = some b.slot := by
  unfold State.head? at h
  split at h
  · next c hc =>
    obtain ⟨r, hserved, hr⟩ := Option.bind_eq_some_iff.1 hc
    split at h
    · cases h
      rw [hserved, State.slot_of_book? hr]
    · cases h
  · cases h

section
variable {s u v : State} {w : Watch} {b : Book} {more : List Nat}

/-- The records lost with a missing head, when the units have decided. -/
theorem Reheads.follow_lost (hre : Reheads w more s v) {r : Nat} (hr : r ∈ more) :
    ∃ x y, s.book? r = some x ∧ headState w x.life = true ∧ s.Beyond w x ∧
      v.follow.book? r = some y ∧ (x.asRetired .lost s.clock).Decided y := by
  obtain ⟨x, hx, hlife, hq, hv⟩ := hre.lost r hr
  obtain ⟨y, hy, hdecided⟩ := (decides_follow v).book?_eq hv
  exact ⟨x, y, hx, hlife, hq, hy, hdecided⟩

/-- The zone of a missing head, when the units have decided. -/
theorem Reheads.follow_zone (hre : Reheads w (b.slot :: more) s v) :
    let z := beltZone (watchBelt w)
    v.follow.zoneState z = (if s.zoneState z = .tripped then .tripped else .faulted) ∧
      (s.zoneState z ≠ .faulted → s.zoneState z ≠ .tripped →
        (v.follow.zones.get z).code = some .missing) := by
  intro z
  have hdec := decides_follow v
  have hvzone : v.zones.get z = (b.slot :: more).foldl (fun k _ => k.reported .missing) (s.zones.get z) :=
    (hre.zones z).trans (if_pos rfl)
  have hvstate : v.zoneState z = if s.zoneState z = .tripped then .tripped else .faulted := by
    rw [State.zoneState, hvzone, ZoneCtl.reports_state]
    rfl
  have hidle : v.zoneState z ≠ .draining := by
    rw [hvstate]
    split <;> decide
  refine ⟨(hdec.zoneState_eq hidle).trans hvstate, fun hf htr => ?_⟩
  rw [hdec.zone_eq hidle, hvzone]
  exact ZoneCtl.reports_code more b.slot .missing hf htr

/-- Where the head left after a missing one stands, when the units have decided. -/
theorem State.HeadTested.follow_head (htested : u.HeadTested w v) (hclosed : u.trk.opened.get w = false)
    (hcount : (v.belt (watchBelt w)).count = (u.belt (watchBelt w)).count) (hcfg : v.cfg = u.cfg) :
    (∀ x next, v.follow.target? w = some (x, next) →
      sdiff (v.follow.belt (watchBelt w)).count next ≤ (u.cfg.window.get (watchBelt w) : Int)) ∧
    (v.follow.trk.opened.get w = true ↔ ∃ x next, v.follow.target? w = some (x, next) ∧
      v.follow.inWindow w next = true) := by
  have hdec := decides_follow v
  have haim : v.follow.aim w = u.aim w := (hdec.aim w).trans htested.aim
  have htcount : (v.follow.belt (watchBelt w)).count = (u.belt (watchBelt w)).count :=
    (hdec.belt_count _).trans hcount
  have hin (next : Count) : v.follow.inWindow w next = u.inWindow w next :=
    State.inWindow_congr (hdec.cfg.trans hcfg) htcount next
  refine ⟨fun y next hnext => ?_, ?_⟩
  · rw [htcount]
    exact htested.not_beyond (haim.symm.trans (State.aim_of_target? hnext))
  · rw [hdec.opened, htested.opened_iff hclosed, ← haim]
    constructor
    · rintro ⟨next, hnext, hwithin⟩
      obtain ⟨y, hy⟩ := State.aim_iff.1 hnext
      exact ⟨y, next, hy, (hin next).trans hwithin⟩
    · rintro ⟨y, next, hy, hwithin⟩
      exact ⟨next, State.aim_of_target? hy, (hin next).symm.trans hwithin⟩

/-- The casing section that has lost its head, when the units have decided (R113). -/
theorem Reheads.follow_casing (hre : Reheads .casing (b.slot :: more) s v)
    (hb : s.head? .casing = some b) :
    v.follow.stg.casing = .empty ∧ v.follow.stg.cases = markHead false s.stg.cases := by
  have hserved : s.stg.casing.record? = some b.slot := State.firstServed_of_head? hb
  have hcasing : v.stg.casing = .empty := by
    rw [hre.stg]
    simp [hserved]
  have hstopped : v.zoneState .b ≠ .running := by
    have hvzone := (hre.zones .b).trans (if_pos rfl)
    rw [State.zoneState, hvzone, ZoneCtl.reports_state]
    split <;> decide
  refine ⟨CasingSide.record?_eq_none.1 ((decides_follow v).casing.trans (by rw [hcasing]; rfl)), ?_⟩
  rw [State.follow_cases hstopped, hre.stg]
  simp

end

/-- The heads at the count at which the first is missing. -/
theorem missing_reheads {s : State} {w : Watch} {b : Book} {target : Count}
    (ht : s.target? w = some (b, target))
    (hbeyond : (s.cfg.window.get (watchBelt w) : Int) < sdiff (s.belt (watchBelt w)).count target) :
    ∃ (v u : State) (more : List Nat), v = (s.loseHead w b).testHead s.headFuel w ∧
      Reheads w (b.slot :: more) s v ∧ u.HeadTested w v ∧ u.trk.opened.get w = false ∧
      u.trk.belts = s.trk.belts ∧ u.cfg = s.cfg := by
  obtain ⟨more, u, hloses, htested⟩ := missing_spec ht hbeyond (Nat.le_succ _)
  refine ⟨_, u, more, rfl, hloses.reheads htested, htested, ?_, ?_, hloses.cfg⟩
  · rw [hloses.trk]
    exact (PerWatch.get_set _ _ _ _).trans (if_pos rfl)
  · rw [hloses.trk]

/-- Settles O39: the windows that open, and the heads that are missing. -/
theorem watchWindowsAndMissingHeads : Obligations.WatchWindowsAndMissingHeads := by
  refine ⟨fun s w b target ht => ?_, fun s w b target ht => ?_⟩
  · intro due
    have hb := State.head?_of_target? ht
    have hbook := State.book?_of_head? hb
    have hexec (hdue : due) : exec (.watchWindowOpen w) s = .next (s.openWindow w b).follow := by
      show Host.Outcome.next (s.openTest w).follow = _
      rw [State.openTest_eq ht, if_pos hdue]
    refine ⟨fun hnot => ?_, fun hdue hout hother => ?_, fun hdue hw hlife hcurrent => ?_,
      fun hdue hw hlane => ?_⟩
    · refine ⟨s.follow, ?_, decides_follow s⟩
      show Host.Outcome.next (s.openTest w).follow = _
      rw [State.openTest_eq ht, if_neg hnot]
    · have hopens : s.openWindow w b = s.setOpened w true := by
        cases w with
        | outfeed => exact absurd rfl hout
        | casing | pressEntry | jacket => rfl
        | stagingEntry =>
          unfold State.openWindow
          dsimp only
          split
          · next g hg =>
            refine if_neg fun ⟨hslot, hgauging⟩ => ?_
            rcases hother with h | h | h
            · exact h rfl
            · exact h hgauging
            · exact h g hg hslot
          · rfl
      rw [hexec hdue, hopens]
      exact ⟨_, rfl, decides_follow _⟩
    · subst hw
      obtain ⟨g, hg, hslot⟩ := hcurrent
      let v := s.setOpened .stagingEntry true
      have hopens : s.openWindow .stagingEntry b = v.forceCompletion := by
        have hcurrent : (s.setOpened .stagingEntry true).gauge.current = some g := hg
        simp only [State.openWindow, hcurrent]
        exact if_pos ⟨hslot, hlife⟩
      have hvbook : v.book? g.slot = some b := by
        rw [hslot]
        exact hbook
      obtain ⟨hcurrent, -, x, limit, -, hnamed, hread⟩ := forceCompletion_spec (s := v) hg hvbook hlife
      have htrk : v.forceCompletion.trk = v.trk :=
        (congrArg State.trk (gauges_forceCompletion (s := v) hg rfl).touches.frame :)
      have hdec := decides_follow v.forceCompletion
      obtain ⟨c, hc, hdecided⟩ := hdec.book?_eq hread
      obtain ⟨hclife, hsamples, -⟩ := hdecided.completed hlife hnamed
      rw [hexec hdue, hopens]
      refine ⟨_, c, rfl, hslot ▸ hc, hclife, ?_, ?_, hsamples⟩
      · rw [hdec.gauge]
        exact hcurrent
      · rw [hdec.opened, htrk]
        rfl
    · subst hw
      obtain ⟨c, l, hfacts⟩ := outfeedWindow hb hlane
      exact ⟨_, c, l, hexec hdue, hfacts⟩
  · intro z due
    have hmissing := State.missingTest_eq ht
    refine ⟨fun hnot => ⟨s.follow, ?_, decides_follow s⟩, fun hdue => ?_⟩
    · show Host.Outcome.next (s.missingTest w).follow = _
      rw [hmissing, if_neg hnot]
    · have hexec : exec (.headMissing w) s =
          .next ((s.loseHead w b).testHead s.headFuel w).follow := by
        show Host.Outcome.next (s.missingTest w).follow = _
        rw [hmissing, if_pos hdue]
      obtain ⟨-, -, hcount⟩ := hdue
      obtain ⟨v, u, more, hv, hre, htested, hclosed, hbelts, hcfg⟩ :=
        missing_reheads ht (by rw [hcount]; omega)
      rw [← hv] at hexec
      clear hv
      have hb := State.head?_of_target? ht
      have hdec := decides_follow v
      have hbelt : v.trk.belts = u.trk.belts := by rw [hre.trk, hbelts]
      have hvcfg : v.cfg = s.cfg := (congrArg State.cfg hre.frame :)
      have houtcomes : v.follow.table.outcomes = s.table.outcomes ++ b.slot :: more :=
        hdec.outcomes.trans hre.outcomes
      obtain ⟨x, c, hx, -, -, hc, hdecided⟩ := hre.follow_lost List.mem_cons_self
      cases (State.book?_of_head? hb).symm.trans hx
      obtain ⟨hzone, hcode⟩ := hre.follow_zone
      obtain ⟨hbeyond, hopened⟩ := htested.follow_head hclosed
        (by unfold State.belt; rw [hbelt]) (hvcfg.trans hcfg.symm)
      rw [hcfg] at hbeyond
      refine ⟨v.follow, c, hexec, hc, hdecided.life, hdecided.outcome, hdecided.lifeAtRetirement,
        hdecided.retiredAt, hdecided.position, ?_, hzone, hcode, ⟨more, houtcomes, fun r hr => ?_⟩,
        hbeyond, hopened, fun hw => ?_, hdec.clock.trans (congrArg State.clock hre.frame :),
        hdec.cfg.trans hvcfg, hdec.io.trans (congrArg State.io hre.frame :),
        hdec.link.trans (congrArg State.link hre.frame :),
        hdec.readers.trans (congrArg State.readers hre.frame :)⟩
      · rw [houtcomes]
        exact List.mem_append_right _ List.mem_cons_self
      · obtain ⟨x, y, hx, hlife, ⟨p, hp, hfar⟩, hy, hgone⟩ := hre.follow_lost (List.mem_cons_of_mem _ hr)
        exact ⟨x, y, p, hx, hlife, hp, hfar, hy, hgone.life, hgone.outcome⟩
      · subst hw
        obtain ⟨hempty, hcases⟩ := hre.follow_casing hb
        refine ⟨hempty, hcases.trans ?_⟩
        cases s.stg.cases <;> rfl

end Sys2Proof.Machine
end

section
/-! SUPPORT. SET CONFIG, which tests every head again (R71, R77, R166). -/
namespace Sys2Proof.Machine

theorem headState_unique {w x : Watch} {l : Life} (h : headState w l = true) (hx : x ≠ w) :
    headState x l = false := by
  cases w <;> simp only [headState, decide_eq_true_eq] at h <;> cases x <;>
    first | exact absurd rfl hx | (rcases h with rfl | rfl <;> rfl)

/-- A zone whose fault is a missing head. -/
def ZoneCtl.Missing (k : ZoneCtl) : Prop := k.state = .faulted ∧ k.code = some .missing

theorem ZoneCtl.missing_reports {α : Type} (l : List α) {k : ZoneCtl} (h : k.Missing) :
    (l.foldl (fun k _ => k.reported .missing) k).Missing := by
  obtain ⟨hstate, hcode⟩ := ZoneCtl.reports_faulted l .missing (.inl h.1)
  exact ⟨hstate.trans h.1, hcode.trans h.2⟩

theorem ZoneCtl.missing_of_reports {α : Type} (l : List α) (a : α) {k : ZoneCtl}
    (h : k.state = .stopped ∨ k.Missing) :
    ((a :: l).foldl (fun k _ => k.reported .missing) k).Missing := by
  rcases h with h | h
  · exact ⟨(ZoneCtl.reports_state l a k .missing).trans (if_neg (by rw [h]; decide)),
      ZoneCtl.reports_code l a .missing (by rw [h]; decide) (by rw [h]; decide)⟩
  · exact ZoneCtl.missing_reports (a :: l) h

/-- What the tests of other watch points' heads leave of watch point `w`. -/
structure Elsewhere (w : Watch) (s t : State) : Prop where
  head : ∀ b, s.head? w = some b → t.head? w = some b
  opened : t.trk.opened.get w = s.trk.opened.get w
  retired : ∀ r x, s.book? r = some x → x.life = .retired → t.book? r = some x
  belts : t.trk.belts = s.trk.belts
  cfg : t.cfg = s.cfg
  missing : ∀ z, (s.zones.get z).Missing → (t.zones.get z).Missing
  stopped : ∀ z, (s.zones.get z).state = .stopped ∨ (s.zones.get z).Missing →
    (t.zones.get z).state = .stopped ∨ (t.zones.get z).Missing

theorem Elsewhere.refl (w : Watch) (s : State) : Elsewhere w s s :=
  ⟨fun _ h => h, rfl, fun _ _ h _ => h, rfl, rfl, fun _ h => h, fun _ h => h⟩

theorem Elsewhere.trans {w : Watch} {s t u : State} (h : Elsewhere w s t) (g : Elsewhere w t u) :
    Elsewhere w s u where
  head b hb := g.head b (h.head b hb)
  opened := g.opened.trans h.opened
  retired r x hx hl := g.retired r x (h.retired r x hx hl) hl
  belts := g.belts.trans h.belts
  cfg := g.cfg.trans h.cfg
  missing z hz := g.missing z (h.missing z hz)
  stopped z hz := g.stopped z (h.stopped z hz)

theorem retest_reheads (s : State) (w : Watch) :
    ∃ gone u, Loses w (s.Beyond w) gone s u ∧ u.HeadTested w (s.retest w) ∧
      Reheads w gone s (s.retest w) := by
  obtain ⟨gone, u, hloses, htested⟩ := testHead_spec s.headFuel (s.headCount_lt_headFuel w)
  exact ⟨gone, u, hloses, htested, hloses.reheads htested⟩

theorem head?_without {gone l : List Nat} {r : Nat} (h : l.head? = some r) (hr : r ∉ gone) :
    (without gone l).head? = some r := by
  cases l with
  | nil => cases h
  | cons q l =>
    cases h
    unfold without
    rw [List.filter_cons_of_pos (by simpa using hr)]
    rfl

/-- A head stays the head while those of another watch point are tested. -/
theorem Reheads.head {w x : Watch} {gone : List Nat} {s t : State} (h : Reheads x gone s t) (hx : x ≠ w)
    {b : Book} (hb : s.head? w = some b) : t.head? w = some b := by
  have hbook := State.book?_of_head? hb
  have hlife := State.life_of_head? hb
  have hserved := State.firstServed_of_head? hb
  have hfalse := headState_unique hlife hx
  have hgone := h.notMem hbook hfalse
  have hfirst : t.firstServed w = some b.slot := by
    cases w with
    | stagingEntry => exact (congrArg List.head? h.transit).trans (head?_without hserved hgone)
    | pressEntry => exact (congrArg List.head? h.pressApproach).trans (head?_without hserved hgone)
    | jacket => exact (congrArg List.head? h.jacketApproach).trans (head?_without hserved hgone)
    | outfeed => exact (congrArg List.head? h.delivery).trans (head?_without hserved hgone)
    | casing =>
      have hrec : s.stg.casing.record? = some b.slot := hserved
      show t.stg.casing.record? = _
      rw [h.stg]
      simp [hrec, hgone]
  unfold State.head?
  rw [hfirst, Option.bind_some, h.kept b.slot b hbook hfalse]
  exact if_pos hlife

theorem elsewhere_retest (s : State) {w x : Watch} (hx : x ≠ w) : Elsewhere w s (s.retest x) := by
  obtain ⟨gone, u, -, -, hre⟩ := retest_reheads s x
  exact {
    head := fun b hb => hre.head hx hb
    opened := hre.opened w hx.symm
    retired := fun r y hy hl => hre.kept r y hy (by rw [hl]; cases x <;> rfl)
    belts := by rw [hre.trk]
    cfg := (congrArg State.cfg hre.frame :)
    missing := fun z hz => by
      rw [hre.zones z]
      split <;> [exact ZoneCtl.missing_reports gone hz; exact hz]
    stopped := fun z hz => by
      rw [hre.zones z]
      split
      · cases gone with
        | nil => exact hz
        | cons r gone => exact .inr (ZoneCtl.missing_of_reports gone r hz)
      · exact hz }

theorem elsewhere_retests {w : Watch} (ws : List Watch) (hw : w ∉ ws) (s : State) :
    Elsewhere w s (ws.foldl State.retest s) := by
  induction ws generalizing s with
  | nil => exact .refl w s
  | cons x ws ih =>
    rw [List.mem_cons, not_or] at hw
    exact (elsewhere_retest s (Ne.symm hw.1)).trans (ih hw.2 _)

/-- What the test of a head finds: it is within its window, before it, or beyond it. -/
structure Found (w : Watch) (b : Book) (off width : Int) (s t : State) : Prop where
  within : -width ≤ off → off ≤ width → t.trk.opened.get w = true
  before : off < -width → t.trk.opened.get w = s.trk.opened.get w
  beyond : width < off → ∃ d, t.book? b.slot = some d ∧ d.life = .retired ∧ d.outcome = some .lost ∧
    (t.zones.get (beltZone (watchBelt w))).Missing

theorem State.target?_of_head? {s : State} {w : Watch} {b : Book} {p : Belt × Count}
    (hb : s.head? w = some b) (hp : b.position = some p) :
    s.target? w = some (b, p.2 + BitVec.ofNat 16 (watchDistance s.cfg w)) := by
  unfold State.target?
  rw [hb]
  dsimp only
  rw [hp]
  rfl

theorem found_retest {s : State} {w : Watch} {b : Book} {p : Belt × Count} (hb : s.head? w = some b)
    (hp : b.position = some p)
    (hzone : (s.zones.get (beltZone (watchBelt w))).state = .stopped ∨
      (s.zones.get (beltZone (watchBelt w))).Missing) :
    Found w b (sdiff (s.belt (watchBelt w)).count (p.2 + BitVec.ofNat 16 (watchDistance s.cfg w)))
      (s.cfg.window.get (watchBelt w)) s (s.retest w) := by
  have ht := State.target?_of_head? hb hp
  refine ⟨fun hlow hhigh => ?_, fun hlow => ?_, fun hhigh => ?_⟩
  · have hin : s.inWindow w (p.2 + BitVec.ofNat 16 (watchDistance s.cfg w)) = true :=
      decide_eq_true ⟨hlow, hhigh⟩
    have heq : s.retest w = if s.trk.opened.get w then s else s.openWindow w b := by
      unfold State.retest State.headFuel State.testHead
      rw [ht]
      exact if_pos hin
    rw [heq]
    split
    · assumption
    · rw [(opens_openWindow s w b).trk]
      exact (PerWatch.get_set _ _ _ _).trans (if_pos rfl)
  · have hbefore : s.Before w := fun c t hc => by
      cases ht.symm.trans hc
      exact hlow
    rw [State.retest, testHead_before hbefore]
  · have hnot : ¬ s.inWindow w (p.2 + BitVec.ofNat 16 (watchDistance s.cfg w)) = true := fun hin =>
      absurd hhigh (Int.not_lt.2 (of_decide_eq_true hin).2)
    have heq : s.retest w = (s.loseHead w b).testHead s.table.books.length w := by
      unfold State.retest State.headFuel
      rw [State.testHead, ht]
      exact (if_neg hnot).trans (if_pos hhigh)
    obtain ⟨more, u, hloses, htested⟩ := missing_spec ht hhigh (Nat.le_refl s.table.books.length)
    rw [← heq] at htested
    have hre := hloses.reheads htested
    obtain ⟨x, hx, -, -, hread⟩ := hre.lost b.slot List.mem_cons_self
    refine ⟨_, hread, rfl, rfl, ?_⟩
    rw [hre.zones, if_pos rfl]
    exact ZoneCtl.missing_of_reports more b.slot hzone

theorem Elsewhere.found {w : Watch} {b : Book} {off width : Int} {s t u v : State}
    (h : Elsewhere w s t) (hfound : Found w b off width t u) (g : Elsewhere w u v) :
    Found w b off width s v where
  within hlow hhigh := g.opened.trans (hfound.within hlow hhigh)
  before hlow := g.opened.trans ((hfound.before hlow).trans h.opened)
  beyond hhigh := by
    obtain ⟨d, hd, hlife, hout, hzone⟩ := hfound.beyond hhigh
    exact ⟨d, g.retired _ d hd hlife, hlife, hout, g.missing _ hzone⟩

/-- Every head is tested, each where it stands. -/
theorem found_retestAll {s : State} (hstopped : ∀ z, s.zoneState z = .stopped) {w : Watch} {b : Book}
    {p : Belt × Count} (hb : s.head? w = some b) (hp : b.position = some p) :
    Found w b (sdiff (s.belt (watchBelt w)).count (p.2 + BitVec.ofNat 16 (watchDistance s.cfg w)))
      (s.cfg.window.get (watchBelt w)) s s.retestAll := by
  have hsplit : ∃ l m, [Watch.stagingEntry, .casing, .pressEntry, .jacket, .outfeed] = l ++ w :: m ∧
      w ∉ l ∧ w ∉ m := by
    cases w with
    | stagingEntry => exact ⟨[], [.casing, .pressEntry, .jacket, .outfeed], rfl, by decide, by decide⟩
    | casing => exact ⟨[.stagingEntry], [.pressEntry, .jacket, .outfeed], rfl, by decide, by decide⟩
    | pressEntry => exact ⟨[.stagingEntry, .casing], [.jacket, .outfeed], rfl, by decide, by decide⟩
    | jacket => exact ⟨[.stagingEntry, .casing, .pressEntry], [.outfeed], rfl, by decide, by decide⟩
    | outfeed => exact ⟨[.stagingEntry, .casing, .pressEntry, .jacket], [], rfl, by decide, by decide⟩
  obtain ⟨l, m, heq, hl, hm⟩ := hsplit
  unfold State.retestAll
  rw [heq, List.foldl_append, List.foldl_cons]
  have hbefore := elsewhere_retests l hl s
  have hown := found_retest (hbefore.head b hb) hp (hbefore.stopped _ (.inl (hstopped _)))
  have hbelt : (l.foldl State.retest s).belt = s.belt := by
    unfold State.belt
    rw [hbefore.belts]
  rw [hbelt, hbefore.cfg] at hown
  exact hbefore.found hown (elsewhere_retests m hm _)

/-! ### The answers -/

section
variable {s : State} {c : Cfg} {vs : List Nat}

theorem splitFields_cfg (hlen : vs.length = cfgRows.length)
    (hfits : ∀ p ∈ cfgRows.zip vs, p.2 < 256 ^ p.1.1) :
    splitFields (cfgRows.map (·.1)) ((cfgRows.zip vs).flatMap (fun p => beBytes p.1.1 p.2)) = some vs := by
  let l := (cfgRows.zip vs).map (fun p => (p.1.1, p.2))
  have hbody : (cfgRows.zip vs).flatMap (fun p => beBytes p.1.1 p.2) =
      l.flatMap (fun p => beBytes p.1 p.2) := by
    rw [List.flatMap_map]
  have hwidths : l.map (·.1) = cfgRows.map (·.1) := by
    rw [show l.map (·.1) = ((cfgRows.zip vs).map Prod.fst).map (·.1) by
      rw [List.map_map, List.map_map] <;> rfl, List.map_fst_zip hlen.ge]
  have hvalues : l.map (·.2) = vs := by
    rw [List.map_map]
    exact List.map_snd_zip hlen.le
  rw [hbody, ← hwidths, splitFields_beBytes l (by rw [List.forall_mem_map]; exact hfits), hvalues]

theorem State.allStopped_iff : s.allStopped = true ↔ ∀ z, s.zoneState z = .stopped := by
  unfold State.allStopped
  simp only [List.all_cons, List.all_nil, Bool.and_true, Bool.and_eq_true, decide_eq_true_eq]
  exact ⟨fun ⟨ha, hb, hp, hc⟩ z => by cases z <;> assumption, fun h => ⟨h _, h _, h _, h _⟩⟩

end

/-- The index period is within its bounds once a configuration is in force. -/
theorem State.period_configure (s : State) {c : Cfg} (hr : cfgInRange (cfgValues c) = true)
    (hc : cfgConstraints c = true) :
    c.pMin ≤ (s.configure c).press.period ∧ (s.configure c).press.period ≤ c.pMax := by
  have hcfg : (s.putCfg c).retestAll.bpTests.cfg = c :=
    ((line_retestAll _).trans (decides_bpTests _).line).cfg
  have hconfigured : (s.configure c).Configured := by
    rw [State.configure_eq]
    exact (keeps_follow _).configured
      (State.configured_recomputed (by rw [hcfg]; exact hr) (by rw [hcfg]; exact hc))
  have hperiod := hconfigured.period
  rwa [(line_configure s c).cfg] at hperiod

section
variable {w : Watch} {b : Book} {off width : Int} {s u v : State}

/-- What the tests of the heads found stands when the units have decided. -/
theorem Found.decided (h : Found w b off width s u) (hdec : Decides u v) : Found w b off width s v := by
  refine ⟨fun hlow hhigh => hdec.opened ▸ h.within hlow hhigh,
    fun hlow => hdec.opened ▸ h.before hlow, fun hhigh => ?_⟩
  obtain ⟨d, hd, hlife, hout, hzone⟩ := h.beyond hhigh
  obtain ⟨c, hc, hdecided⟩ := hdec.book?_eq hd
  refine ⟨c, hc, hdecided.life.trans hlife, hdecided.outcome.trans hout, ?_⟩
  rw [hdec.zone_eq fun hdraining => nomatch hzone.1.symm.trans hdraining]
  exact hzone

theorem Found.recomputed (h : Found w b off width s u) : Found w b off width s u.recomputePeriod :=
  ⟨h.within, h.before, h.beyond⟩

theorem Found.configured (h : Found w b off width s u) :
    Found w b off width s u.bpTests.recomputePeriod.follow :=
  (h.decided (decides_bpTests u)).recomputed.decided (decides_follow _)

end

theorem found_configure {s : State} (hstopped : ∀ z, s.zoneState z = .stopped) (c : Cfg) {w : Watch}
    {b : Book} {p : Belt × Count} (hb : s.head? w = some b) (hp : b.position = some p) :
    Found w b (sdiff (s.belt (watchBelt w)).count (p.2 + BitVec.ofNat 16 (watchDistance c w)))
      (c.window.get (watchBelt w)) (s.putCfg c) (s.configure c) := by
  have hfound := found_retestAll (s := s.putCfg c) hstopped hb hp
  have hcount : ((s.putCfg c).belt (watchBelt w)).count = (s.belt (watchBelt w)).count := by
    cases w <;> rfl
  rw [hcount] at hfound
  rw [State.configure_eq]
  exact hfound.configured

/-- Settles O16. -/
theorem setConfig : Obligations.SetConfig := by
  intro s c vs hrx hlen hfits hvs body
  have hsplit : splitFields (cfgRows.map (·.1)) body = some vs := splitFields_cfg hlen hfits
  have hcfg : cfgOfValues vs = c := by rw [hvs, cfgOfValues_cfgValues]
  have hbody : onSetConfig body s =
      if !s.allStopped then s.refused .wrongState
      else if !cfgInRange vs then s.refused .outOfRange
      else if !cfgConstraints c then s.refused .outOfRange
      else (s.configure c, ⟨.ok, cfgBody c⟩) := by
    unfold onSetConfig
    rw [hsplit, ← hcfg]
  refine ⟨fun ⟨z, hz⟩ => ?_, fun hstopped hbad => ?_, fun hstopped hrange hconstraints => ?_⟩
  · have hnot : s.allStopped = false := Bool.eq_false_iff.2 fun h => hz (State.allStopped_iff.1 h z)
    exact exec_request (h := onSetConfig) hrx rfl (hbody.trans (if_pos (by rw [hnot]; rfl)))
  · have hall : s.allStopped = true := State.allStopped_iff.2 hstopped
    refine exec_request (h := onSetConfig) hrx rfl (hbody.trans ?_)
    rw [hall]
    rcases hbad with h | h
    · rw [h]
      rfl
    · rw [h]
      cases cfgInRange vs <;> rfl
  · rw [State.allStopped_iff.2 hstopped, hrange, hconstraints] at hbody
    have hline : Line (s.putCfg c) (s.configure c) := line_configure s c
    obtain ⟨hlow, hhigh⟩ := State.period_configure s (by rw [← hvs]; exact hrange) hconstraints
    have hheads (w : Watch) (b : Book) (p : Belt × Count) (hb : s.head? w = some b)
        (hp : b.position = some p) := found_configure hstopped c hb hp
    have hexec := exec_request (i := .setConfig body) (h := onSetConfig) hrx rfl hbody
    generalize s.configure c = t at hline hlow hhigh hheads hexec
    have hbelts (z : Belt) : (t.belt z).count = (s.belt z).count ∧ (t.belt z).mark = (s.belt z).mark := by
      have hbelt := hline.belts z
      rw [show (s.putCfg c).belt z = (s.belt z).newValues by cases z <;> rfl] at hbelt
      exact ⟨(congrArg BeltState.count hbelt :), (congrArg BeltState.mark hbelt :)⟩
    refine ⟨t, hexec, hline.cfg, hlow, hhigh, hline.link, hline.io, hline.readers, hline.admitSet,
      hline.clock, hline.pending, hline.held, hline.eyes, hbelts, fun w b p hb hp => ?_⟩
    have hfound := hheads w b p hb hp
    refine ⟨hfound.within, hfound.before, fun hfar => ?_⟩
    obtain ⟨d, hd, hlife, hout, hzone⟩ := hfound.beyond hfar
    exact ⟨d, hd, hlife, hout, hzone.1, hzone.2⟩

end Sys2Proof.Machine
end

section
/-! SUPPORT. Counts of the encoders: what their tests leave of the belts (R63, R64, R76, R80). -/
namespace Sys2Proof.Machine

/-! ### What leaves the belts as they are -/

theorem Touches.trk {r : Nat} {s t : State} (h : Touches r s t) : t.trk = s.trk :=
  (congrArg State.trk h.frame :)

theorem trk_completionTest (s : State) : s.completionTest.trk = s.trk := by
  unfold State.completionTest
  split
  · split
    · split <;> rfl
    · rfl
  · rfl

theorem trk_closeWindow (s : State) : s.closeWindow.trk = s.trk := by
  unfold State.closeWindow
  split
  · next g _ =>
    split
    · next w _ =>
      exact (touches_identifyWindow (s.setGauging (some { g with window := none })) g.slot w).trk
    · rfl
  · rfl

theorem trk_endLength (s : State) : s.endLength.trk = s.trk := by
  unfold State.endLength
  split
  · split <;> rfl
  · rfl

theorem trk_sampleTest (s : State) : s.sampleTest.trk = s.trk := by
  unfold State.sampleTest
  split
  · split
    · split
      · exact trk_completionTest _
      · rfl
    · rfl
  · rfl

theorem trk_spanTest (s : State) : s.spanTest.trk = s.trk := by
  unfold State.spanTest
  split
  · split
    · split
      · rw [trk_completionTest, State.fault_trk, trk_endLength]
      · rfl
    · rfl
  · rfl

theorem trk_windowTest (s : State) : s.windowTest.trk = s.trk := by
  unfold State.windowTest
  split
  · split
    · split
      · rw [trk_completionTest, trk_closeWindow]
      · rfl
    · rfl
  · rfl

theorem belts_openTest (s : State) (w : Watch) : (s.openTest w).trk.belts = s.trk.belts := by
  unfold State.openTest
  split
  · split
    · rw [(opens_openWindow s w _).trk]
      rfl
    · rfl
  · rfl

theorem belts_missingTest (s : State) (w : Watch) : (s.missingTest w).trk.belts = s.trk.belts := by
  cases ht : s.target? w with
  | none => simp only [State.missingTest, ht]
  | some p =>
    obtain ⟨b, target⟩ := p
    rw [State.missingTest_eq ht]
    split
    · next hdue =>
      obtain ⟨more, u, hloses, htested⟩ := missing_spec ht (by rw [hdue.2.2]; omega) (Nat.le_succ _)
      have hre := hloses.reheads htested
      rw [show s.headFuel = s.table.books.length.succ from rfl, hre.trk]
    · rfl

theorem belts_watchTests (s : State) (w : Watch) :
    ((s.openTest w).missingTest w).trk.belts = s.trk.belts :=
  (belts_missingTest _ w).trans (belts_openTest s w)

theorem belts_gaugeTests (s : State) (z : Belt) : (s.gaugeTests z).trk.belts = s.trk.belts := by
  cases z with
  | a =>
    show s.sampleTest.spanTest.windowTest.trk.belts = _
    rw [trk_windowTest, trk_spanTest, trk_sampleTest]
  | b | c => rfl

theorem belts_upTests (s : State) (z : Belt) : (s.upTests z).trk.belts = s.trk.belts := by
  have h := belts_gaugeTests s z
  unfold State.upTests
  cases z with
  | a => exact (belts_watchTests _ _).trans h
  | b | c => exact (belts_watchTests _ _).trans ((belts_watchTests _ _).trans h)

/-! ### The phase cycle (R63) -/

theorem phaseStep_same (p : Bool × Bool) : (phaseStep p + 4 - phaseStep p) % 4 = 0 := by
  revert p
  decide

theorem phaseStep_both (p : Bool × Bool) : (phaseStep (!p.1, !p.2) + 4 - phaseStep p) % 4 = 2 := by
  revert p
  decide

theorem phaseStep_forward (p : Bool × Bool) : (phaseStep (!p.2, p.1) + 4 - phaseStep p) % 4 = 1 := by
  revert p
  decide

theorem phaseStep_back (p : Bool × Bool) : (phaseStep (p.2, !p.1) + 4 - phaseStep p) % 4 = 3 := by
  revert p
  decide

section
variable {s : State} {z : Belt}

theorem State.takePhases_same (h : s.phaseReading z = (s.belt z).phase) : s.takePhases z = s := by
  unfold State.takePhases
  dsimp only
  rw [h, phaseStep_same] <;> rfl

theorem State.takePhases_both (h : s.phaseReading z = (!(s.belt z).phase.1, !(s.belt z).phase.2)) :
    s.takePhases z =
      ((s.setBelt z { s.belt z with phase := s.phaseReading z }).fault (beltZone z) .encoder).follow := by
  have hstep := phaseStep_both (s.belt z).phase
  rw [← h] at hstep
  unfold State.takePhases
  dsimp only
  rw [hstep] <;> rfl

theorem State.takePhases_forward (h : s.phaseReading z = (!(s.belt z).phase.2, (s.belt z).phase.1)) :
    s.takePhases z =
      ((s.setBelt z { (s.belt z).up with phase := s.phaseReading z }).upTests z).follow := by
  have hstep := phaseStep_forward (s.belt z).phase
  rw [← h] at hstep
  unfold State.takePhases
  dsimp only
  rw [hstep] <;> rfl

theorem State.takePhases_back (h : s.phaseReading z = ((s.belt z).phase.2, !(s.belt z).phase.1)) :
    s.takePhases z =
      ((s.setBelt z { (s.belt z).down with phase := s.phaseReading z }).downTests z).follow := by
  have hstep := phaseStep_back (s.belt z).phase
  rw [← h] at hstep
  unfold State.takePhases
  dsimp only
  rw [hstep] <;> rfl

end

/-- What the test of back travel leaves of the belts. -/
theorem State.belt_backTravelTest (s : State) (z y : Belt) :
    { (s.backTravelTest z).belt y with backReported := (s.belt y).backReported } = s.belt y ∧
      (y ≠ z → (s.backTravelTest z).belt y = s.belt y) := by
  unfold State.backTravelTest
  dsimp only
  split
  · have htrk (u : State) : (u.fault (beltZone z) .backTravel).belt y = u.belt y :=
      congrArg (fun t : Tracking => t.belts.get y) (State.fault_trk u _ _)
    rw [htrk, State.belt_setBelt]
    split
    · next h => exact ⟨by rw [h], fun hne => absurd h hne⟩
    · exact ⟨rfl, fun _ => rfl⟩
  · exact ⟨rfl, fun _ => rfl⟩

theorem belt_of_belts {s t : State} (h : t.trk.belts = s.trk.belts) (z : Belt) : t.belt z = s.belt z := by
  unfold State.belt
  rw [h]

theorem belt_openTests (ws : List Watch) (s : State) (y : Belt) :
    (ws.foldl (fun s w => s.openTest w) s).belt y = s.belt y := by
  induction ws generalizing s with
  | nil => rfl
  | cons w ws ih => exact (ih _).trans (belt_of_belts (belts_openTest s w) y)

/-- The belts when the tests of a count have been made and the units have decided. -/
theorem belt_follow_upTests (s : State) (z y : Belt) :
    { (s.upTests z).follow.belt y with backPressure := (s.belt y).backPressure } = s.belt y := by
  have h := (decides_follow (s.upTests z)).belts y
  rwa [belt_of_belts (belts_upTests s z)] at h

theorem belt_follow_downTests (s : State) (z y : Belt) :
    { (s.downTests z).follow.belt y with
        backPressure := (s.belt y).backPressure, backReported := (s.belt y).backReported } = s.belt y ∧
      (y ≠ z → { (s.downTests z).follow.belt y with backPressure := (s.belt y).backPressure } =
        s.belt y) := by
  have h := (decides_follow (s.downTests z)).belts y
  have htests : (s.downTests z).belt y = (s.backTravelTest z).belt y := belt_openTests _ _ y
  obtain ⟨hback, hother⟩ := s.belt_backTravelTest z y
  rw [htests] at h
  have hbp : ((s.backTravelTest z).belt y).backPressure = (s.belt y).backPressure :=
    (congrArg BeltState.backPressure hback :)
  rw [hbp] at h
  refine ⟨?_, fun hy => h.trans (hother hy)⟩
  exact (congrArg (fun k : BeltState => { k with backReported := (s.belt y).backReported }) h :).trans hback

theorem State.belt_setBelt_self (s : State) (z : Belt) (k : BeltState) : (s.setBelt z k).belt z = k :=
  (s.belt_setBelt z z k).trans (if_pos rfl)

theorem State.belt_setBelt_ne (s : State) {z y : Belt} (k : BeltState) (h : y ≠ z) :
    (s.setBelt z k).belt y = s.belt y := (s.belt_setBelt z y k).trans (if_neg h)

/-- What a count leaves when its tests have been made and the units have decided: `k` is its belt's new
state. -/
structure Counts (z : Belt) (k : BeltState) (s t : State) : Prop where
  line : Line (s.setBelt z k) t
  own : { t.belt z with backPressure := k.backPressure, backReported := k.backReported } = k
  others : ∀ y, y ≠ z → { t.belt y with backPressure := (s.belt y).backPressure } = s.belt y

theorem counts_up (s : State) (z : Belt) (k : BeltState) :
    Counts z k s ((s.setBelt z k).upTests z).follow ∧
      (((s.setBelt z k).upTests z).follow.belt z).backReported = k.backReported := by
  have hline := (line_upTests (s.setBelt z k) z).trans (line_follow _)
  have hbelt := belt_follow_upTests (s.setBelt z k) z
  generalize ((s.setBelt z k).upTests z).follow = t at hline hbelt
  have hown := hbelt z
  rw [State.belt_setBelt_self] at hown
  refine ⟨⟨hline, ?_, fun y hy => ?_⟩, (congrArg BeltState.backReported hown :)⟩
  · exact (congrArg (fun m : BeltState => { m with backReported := k.backReported }) hown :)
  · have hother := hbelt y
    rwa [State.belt_setBelt_ne s k hy] at hother

theorem counts_down (s : State) (z : Belt) (k : BeltState) :
    Counts z k s ((s.setBelt z k).downTests z).follow := by
  have hline := (line_downTests (s.setBelt z k) z).trans (line_follow _)
  have hbelt := belt_follow_downTests (s.setBelt z k) z
  generalize ((s.setBelt z k).downTests z).follow = t at hline hbelt
  have hown := (hbelt z).1
  rw [State.belt_setBelt_self] at hown
  refine ⟨hline, hown, fun y hy => ?_⟩
  have hother := (hbelt y).2 hy
  rwa [State.belt_setBelt_ne s k hy] at hother

/-- The tests of back travel. -/
theorem State.backTravelTest_eq (s : State) (z : Belt) : s.backTravelTest z =
    if (s.belt z).direction = .reverse ∧ (s.belt z).counted = true ∧ (s.belt z).backReported = false ∧
        sdiff (s.belt z).mark (s.belt z).count = (s.cfg.backLimit.get z : Int) + 1
    then (s.setBelt z { s.belt z with backReported := true }).fault (beltZone z) .backTravel else s := by
  unfold State.backTravelTest
  simp only [Bool.and_eq_true, decide_eq_true_eq, Bool.not_eq_true', and_assoc]

/-- What stands beside the belts at a change of the phase lines that counts. -/
theorem exec_phaseChange_counts {s : State} {z : Belt} {x y up : Bool}
    (h : ((s.setLevel (phasePoints z).1 x).setLevel (phasePoints z).2 y).phaseReading z =
      (if up then (!(s.belt z).phase.2, (s.belt z).phase.1)
        else ((s.belt z).phase.2, !(s.belt z).phase.1))) :
    let moved := (s.setLevel (phasePoints z).1 x).setLevel (phasePoints z).2 y
    let k := if up then { (s.belt z).up with phase := moved.phaseReading z }
      else { (s.belt z).down with phase := moved.phaseReading z }
    ∃ t, exec (.encoderPhaseChange z x y) s = .next t ∧ Counts z k moved t ∧
      (up = true → (t.belt z).backReported = false) := by
  intro moved k
  have hexec : exec (.encoderPhaseChange z x y) s = .next (moved.takePhases z) := rfl
  cases up with
  | true =>
    rw [hexec, State.takePhases_forward h]
    obtain ⟨hcounts, hreported⟩ := counts_up moved z { (s.belt z).up with phase := moved.phaseReading z }
    exact ⟨_, rfl, hcounts, fun _ => hreported⟩
  | false =>
    rw [hexec, State.takePhases_back h]
    exact ⟨_, rfl, counts_down moved z { (s.belt z).down with phase := moved.phaseReading z }, nofun⟩

/-- Settles O32. -/
theorem encoderCounts : Obligations.EncoderCounts := by
  refine ⟨fun s z x y => ?_, fun s => ⟨rfl, rfl, rfl, fun w => ⟨rfl, rfl⟩, fun z => rfl⟩, fun s z => ?_⟩
  · intro moved old new
    have hexec : exec (.encoderPhaseChange z x y) s = .next (moved.takePhases z) := rfl
    refine ⟨fun h => ?_, fun h => ?_, fun up h => ?_, fun h => ?_, fun h => ?_⟩
    · rw [hexec, State.takePhases_same h]
    · rw [hexec, State.takePhases_both h]
      exact ⟨_, rfl, decides_follow _⟩
    · obtain ⟨t, ht, hcounts, hreported⟩ := exec_phaseChange_counts h
      have hline := hcounts.line
      refine ⟨t, ht, ?_, hcounts.others, hreported, hline.io, hline.clock, hline.cfg, hline.link,
        hline.readers, hline.admitSet, hline.eyes, hline.held⟩
      have hown := hcounts.own
      cases up with
      | true =>
        simp only [true_and, if_true]
        exact hown
      | false => exact hown
    · intro n counted
      rw [hexec, State.takePhases_forward h]
      cases z <;> rfl
    · intro counted
      rw [hexec, State.takePhases_back h]
      cases z <;> rfl
  · intro due
    have hexec : exec (.backTravel z) s = .next (s.backTravelTest z).follow := rfl
    rw [hexec, State.backTravelTest_eq]
    refine ⟨fun hdue => ?_, fun hnot => ?_⟩
    · rw [if_pos hdue]
      exact ⟨_, rfl, decides_follow _⟩
    · rw [if_neg hnot]
      exact ⟨_, rfl, decides_follow _⟩

end Sys2Proof.Machine
end

section
/-! SUPPORT. The commands of the units: the casing cycle's begin, the two releases, the end of a drain
(R108, R110, R113, R141, R151). -/
namespace Sys2Proof.Machine

/-! ### The casing cycle and its release -/

theorem shootReserved_of_reserved {e : CaseEntry} {rest : List CaseEntry} (h : e.reserved = true) :
    shootReserved (e :: rest) = rest := if_pos h

/-- A pending cycle that begins takes the reserved case out of the queue. -/
theorem State.casingCycleTest_identities {s : State} {r : Nat} {e : CaseEntry} {rest : List CaseEntry}
    (hpending : s.stg.casing = .cyclePending r) (hactive : s.active .b = true)
    (harmed : s.io.armed = true) (hcases : s.stg.cases = e :: rest) (hreserved : e.reserved = true) :
    s.casingCycleTest.stg.cases.map (·.identity) = rest.map (·.identity) := by
  unfold State.casingCycleTest
  rw [hpending]
  dsimp only
  rw [hactive, harmed, Bool.and_self, if_pos rfl,
    State.stagingDecide_identities, hcases,
    shootReserved_of_reserved hreserved]

theorem State.casingCycleTest_of_not {s : State} (h : (∀ q, s.stg.casing ≠ .cyclePending q) ∨
    s.active .b = false ∨ s.io.armed = false) : s.casingCycleTest = s := by
  unfold State.casingCycleTest
  split
  · next q hq =>
    rcases h with h | h | h
    · exact absurd hq (h q)
    all_goals simp [h]
  all_goals rfl

theorem State.casingReleaseTest_commanded {s : State} {r : Nat} (hcased : s.stg.casing = .cased r)
    (hactive : s.active .b = true) (harmed : s.io.armed = true)
    (hroom : s.table.pressApproach.length < 4) :
    s.casingReleaseTest = s.setCasing (.releasing r ⟨s.clock, s.cfg.releaseTimeout⟩) := by
  simp [State.casingReleaseTest, hcased, hactive, harmed, hroom, State.startTimer]

theorem State.casingReleaseTest_of_not {s : State} (h : (∀ q, s.stg.casing ≠ .cased q) ∨
    s.active .b = false ∨ s.io.armed = false ∨ 4 ≤ s.table.pressApproach.length) :
    s.casingReleaseTest = s := by
  unfold State.casingReleaseTest
  split
  · next q hq =>
    rcases h with h | h | h | h
    · exact absurd hq (h q)
    · simp [h]
    · simp [h]
    · rw [decide_eq_false (Nat.not_lt.2 h)]
      simp
  all_goals rfl

/-! ### The jacket release -/

/-- With no jacket stop that is full, zone C has no back-pressure. -/
theorem State.bpTest_c_of_releasing {s : State} {r : Nat} {u : Timer}
    (h : s.dlv.stop = .releasing r u) :
    s.bpTest .c = s.setBelt .c { s.belt .c with backPressure := false } := by
  have hfull : s.downstreamFull .c = false := congrArg JacketStop.full h
  simp [State.bpTest, State.setBelt, State.bpNext, hfull]

theorem State.jacketReleaseTest_commanded {s : State} {r : Nat} (hdone : s.dlv.stop = .done r)
    (hactive : s.active .c = true) (harmed : s.io.armed = true) (hroom : s.table.delivery.length < 6) :
    s.jacketReleaseTest = (s.setStop (.releasing r ⟨s.clock, s.cfg.releaseTimeout⟩)).setBelt .c
      { s.belt .c with backPressure := false } := by
  have htest : s.jacketReleaseTest =
      (s.setStop (.releasing r ⟨s.clock, s.cfg.releaseTimeout⟩)).bpTest .c := by
    simp [State.jacketReleaseTest, hdone, hactive, harmed, hroom, State.startTimer]
  rw [htest, State.bpTest_c_of_releasing rfl]
  rfl

theorem State.jacketReleaseTest_of_not {s : State} (h : (∀ q, s.dlv.stop ≠ .done q) ∨
    s.active .c = false ∨ s.io.armed = false ∨ 6 ≤ s.table.delivery.length) :
    s.jacketReleaseTest = s := by
  unfold State.jacketReleaseTest
  split
  · next q hq =>
    rcases h with h | h | h | h
    · exact absurd hq (h q)
    · simp [h]
    · simp [h]
    · rw [decide_eq_false (Nat.not_lt.2 h)]
      simp
  all_goals rfl

/-! ### The end of a drain -/

theorem State.drainTest_of_drained {s : State} {z : Zone} (hstate : s.zoneState z = .draining)
    (hdrained : s.drained z = true) : s.drainTest z = s.setZone z .stopped := by
  simp [State.drainTest, hstate, hdrained]

theorem State.drainTest_of_not {s : State} {z : Zone}
    (h : s.zoneState z ≠ .draining ∨ s.drained z = false) : s.drainTest z = s := by
  unfold State.drainTest
  rcases h with h | h <;> simp [h]

/-! ### The commands -/

theorem exec_casingCycleBegin {s : State} {r : Nat} (hpending : s.stg.casing = .cyclePending r)
    (hactive : s.active .b = true) (harmed : s.io.armed = true) :
    ∃ t : State, exec .casingCycleBegin s = .next t ∧ Decides s t ∧
      t.stg.casing = .inCycle r ⟨s.clock, s.cfg.casingTimeout⟩ ∧
      t.table.books.length = s.table.books.length ∧
      ∀ e rest, s.stg.cases = e :: rest → e.reserved = true →
        t.stg.cases.map (·.identity) = rest.map (·.identity) := by
  have hdec := decides_casingCycleTest s
  refine ⟨s.casingCycleTest, rfl, hdec, ?_, hdec.books.length_eq.symm, fun e rest hcases hreserved =>
    State.casingCycleTest_identities hpending hactive harmed hcases hreserved⟩
  rw [State.casingCycleTest_of_pending hpending, if_pos ⟨hactive, harmed⟩]

theorem exec_drainEnd {s : State} {z : Zone} (hstate : s.zoneState z = .draining)
    (hdrained : s.drained z = true) :
    ∃ t : State, exec (.drainEnd z) s = .next t ∧ t.zoneState z = .stopped ∧ Decides s t ∧
      ∀ y, y ≠ z → t.zones.get y = s.zones.get y := by
  have hdec := decides_drainTest s z
  rw [State.drainTest_of_drained hstate hdrained] at hdec
  refine ⟨s.setZone z .stopped, ?_, State.zoneState_setZone s z _, hdec, fun y hy => ?_⟩
  · exact congrArg Host.Outcome.next (State.drainTest_of_drained hstate hdrained)
  · rw [State.zones_setZone, if_neg hy]

end Sys2Proof.Machine
end

section
/-! SUPPORT. The back-pressure flags (R74): a flag is tested as the units begin to decide, and what they
decide leaves the test as it is. -/
namespace Sys2Proof.Machine

/-! ### The test of a flag -/

/-- The flag of zone `z` once it is tested in state `t`, where it stood at `old` before. -/
def State.flagTested (t : State) (old : Bool) (z : Belt) : Bool :=
  t.downstreamFull z && ((t.head? (bpWatch z)).isSome && (old || (t.aim (bpWatch z)).any fun target =>
    decide (-(t.cfg.margin.get z : Int) ≤ sdiff (t.belt z).count target)))

theorem State.bpNext_eq (t : State) (z : Belt) : t.bpNext z = t.flagTested (t.belt z).backPressure z := by
  unfold State.bpNext State.flagTested State.aim
  cases t.downstreamFull z with
  | false => rfl
  | true =>
    cases hhead : t.head? (bpWatch z) with
    | none => rfl
    | some b =>
      cases (t.belt z).backPressure with
      | true => rfl
      | false => cases t.target? (bpWatch z) <;> rfl

/-- Where a flag is tested twice, the second test finds what the first did. -/
theorem State.flagTested_twice (t : State) (old : Bool) (z : Belt) :
    t.flagTested (t.flagTested old z) z = t.flagTested old z := by
  simp only [State.flagTested]
  cases t.downstreamFull z <;> cases (t.head? (bpWatch z)).isSome <;> cases old <;> simp

/-- Every flag of `t` is the one that stood in `s`, tested in `t`. -/
def Tested (s t : State) : Prop := ∀ z, (t.belt z).backPressure = t.flagTested (s.belt z).backPressure z

/-- No flag has changed. -/
def FlagsStand (s t : State) : Prop := ∀ z, (t.belt z).backPressure = (s.belt z).backPressure

theorem FlagsStand.trans {s t u : State} (h : FlagsStand s t) (g : FlagsStand t u) : FlagsStand s u :=
  fun z => (g z).trans (h z)

theorem flagsStand_of_belts {s t : State} (h : t.trk.belts = s.trk.belts) : FlagsStand s t := fun z => by
  unfold State.belt
  rw [h]

theorem flagsStand_of_trk {s t : State} (h : t.trk = s.trk) : FlagsStand s t :=
  flagsStand_of_belts (congrArg Tracking.belts h)

/-! ### What decisions leave of the test -/

theorem Decides.head?_isSome {s t : State} (h : Decides s t) (w : Watch) :
    (t.head? w).isSome = (s.head? w).isSome := by
  have hserved : t.firstServed w = s.firstServed w := by
    cases w with
    | stagingEntry => exact congrArg List.head? h.transit
    | casing => exact h.casing
    | pressEntry => exact congrArg List.head? h.pressApproach
    | jacket => exact congrArg List.head? h.jacketApproach
    | outfeed => exact congrArg List.head? h.delivery
  unfold State.head?
  rw [hserved]
  cases s.firstServed w with
  | none => rfl
  | some r =>
    dsimp only [Option.bind_some]
    cases hb : s.book? r with
    | none => rw [h.book?_none hb]
    | some b =>
      obtain ⟨c, hc, hdecided⟩ := h.book?_eq hb
      rw [hc]
      dsimp only
      rw [hdecided.life]
      cases headState w b.life <;> rfl

/-- The test of a flag after decisions that leave what is downstream as full as it was. -/
theorem Decides.flagTested {s t : State} (h : Decides s t) {z : Belt}
    (hfull : t.downstreamFull z = s.downstreamFull z) (old : Bool) :
    t.flagTested old z = s.flagTested old z := by
  unfold State.flagTested
  rw [hfull, h.head?_isSome, h.aim, h.cfg, h.belt_count]

/-- Decisions that keep each flag and what is downstream of it, or leave both at rest. -/
structure Follows (s t : State) : Prop where
  decides : Decides s t
  flags : ∀ z, ((t.belt z).backPressure = (s.belt z).backPressure ∧
      t.downstreamFull z = s.downstreamFull z) ∨
    ((t.belt z).backPressure = false ∧ t.downstreamFull z = false)

theorem Follows.refl (s : State) : Follows s s := ⟨.refl s, fun _ => .inl ⟨rfl, rfl⟩⟩

theorem Follows.trans {s t u : State} (h : Follows s t) (g : Follows t u) : Follows s u := by
  refine ⟨h.decides.trans g.decides, fun z => ?_⟩
  rcases g.flags z with ⟨hflag, hfull⟩ | hrest
  · rw [hflag, hfull]
    exact h.flags z
  · exact .inr hrest

theorem Follows.after {s t u : State} (g : Follows t u) (h : Follows s t) : Follows s u := h.trans g

theorem Tested.follows {s t u : State} (h : Tested s t) (g : Follows t u) : Tested s u := fun z => by
  rcases g.flags z with ⟨hflag, hfull⟩ | ⟨hflag, hfull⟩
  · rw [hflag, h z, g.decides.flagTested hfull]
  · rw [hflag, State.flagTested, hfull, Bool.false_and]

/-- Decisions that touch neither the tracking nor whether the jacket stop is full. -/
theorem Decides.follows {s t : State} (h : Decides s t) (htrk : t.trk = s.trk)
    (hstop : t.dlv.stop.full = s.dlv.stop.full) : Follows s t := by
  refine ⟨h, fun z => .inl ⟨flagsStand_of_trk htrk z, ?_⟩⟩
  cases z with
  | a => exact congrArg (fun q : List Nat => decide (4 ≤ q.length)) h.queue
  | b => exact (congrArg (fun u : PressUnit => decide (3 ≤ u.queue.length)) h.press :)
  | c => exact hstop

theorem follows_casingReleaseTest (s : State) : Follows s s.casingReleaseTest := by
  have hframe := s.casingReleaseTest_frame
  exact (decides_casingReleaseTest s).follows (congrArg State.trk hframe :)
    (congrArg (fun u : State => u.dlv.stop.full) hframe :)

theorem follows_stagingDecide (s : State) : Follows s s.stagingDecide :=
  (decides_stagingDecide s).follows (State.stagingDecide_trk s) (by rw [State.stagingDecide_dlv])

theorem follows_pressTest (s : State) : Follows s s.pressTest :=
  (decides_pressTest s).follows s.pressTest_trk (by rw [State.pressTest_dlv])

/-- The release that is commanded leaves nothing full downstream of zone C. -/
theorem follows_jacketReleaseTest (s : State) : Follows s s.jacketReleaseTest := by
  refine ⟨decides_jacketReleaseTest s, fun z => ?_⟩
  unfold State.jacketReleaseTest
  split
  · next r hdone =>
    split
    · cases z with
      | a | b => exact .inl ⟨by simp [State.belt, State.setStop, State.bpTest], rfl⟩
      | c => exact .inr ⟨by rw [State.bpTest_c_of_releasing rfl, State.belt_setBelt_self], rfl⟩
    · exact .inl ⟨rfl, rfl⟩
  all_goals exact .inl ⟨rfl, rfl⟩

theorem follows_setStop {s : State} (x : JacketStop) (jackets : List Identity)
    (hrecord : x.record? = s.dlv.stop.record?) (hfull : x.full = s.dlv.stop.full) :
    Follows s { s with dlv := { s.dlv with stop := x, jackets := jackets } } :=
  (decides_stop s x jackets hrecord).follows rfl hfull

section
variable {s : State} {x : Book} {r : Nat} {t : Option Timer}

theorem follows_releaseUnjacketed (hstop : s.dlv.stop = .waiting r t) (hr : x.slot = r) :
    Follows s (s.releaseUnjacketed x) := by
  subst hr
  have hdone {u : State} (hu : u.dlv.stop = .waiting x.slot t) : Follows u (u.setStop (.done x.slot)) :=
    follows_setStop _ u.dlv.jackets (by rw [hu]; rfl) (by rw [hu]; rfl)
  unfold State.releaseUnjacketed
  dsimp only
  split
  · exact (follows_jacketReleaseTest _).after ((hdone (u := s.setJacketResult x.slot .unjacketed) hstop).after
      ((decides_setJacketResult s _ _).follows rfl rfl))
  · exact (follows_jacketReleaseTest _).after (hdone hstop)

theorem follows_decideStop (timer : Option Timer) (hstop : s.dlv.stop = .waiting r t) (hr : x.slot = r) :
    Follows s (s.decideStop x timer) := by
  have hfull (y : JacketStop) (jackets : List Identity) (hrecord : y.record? = some x.slot)
      (hy : y.full = true) {u : State} (hu : u.dlv.stop = .waiting r t) :
      Follows u { u with dlv := { u.dlv with stop := y, jackets := jackets } } :=
    follows_setStop y jackets (by rw [hrecord, hu, hr]; rfl) (by rw [hy, hu]; rfl)
  unfold State.decideStop
  split
  · exact follows_releaseUnjacketed hstop hr
  · split
    · exact hfull _ s.dlv.jackets rfl rfl hstop
    · split
      case h_1 =>
        exact (hfull _ _ rfl rfl (u := s.updBook x.slot _) hstop).after
          ((decides_updBook s x.slot (fun b => { b with marriedJacket := some _ })
            fun _ => ⟨rfl, fun _ h => h⟩).follows rfl rfl)
      case h_5 => exact follows_releaseUnjacketed hstop hr
      all_goals exact hfull _ s.dlv.jackets rfl rfl hstop

end

theorem follows_jacketDecide (s : State) : Follows s s.jacketDecide := by
  unfold State.jacketDecide
  split
  · next r timer hstop =>
    split
    · split
      · next x hx => exact follows_decideStop _ hstop (State.slot_of_book? hx)
      · exact .refl s
    · exact .refl s
  all_goals exact .refl s

theorem JacketStop.stopTimer_full (x : JacketStop) : x.stopTimer.full = x.full := by cases x <;> rfl

theorem State.setZone_full (s : State) (z : Zone) (st : ZoneState) :
    (s.setZone z st).dlv.stop.full = s.dlv.stop.full := by
  unfold State.setZone State.stopZoneTimers
  split
  · split <;> rfl
  · split
    · rfl
    · exact JacketStop.stopTimer_full _
  all_goals rfl

theorem follows_drainTest (s : State) (z : Zone) : Follows s (s.drainTest z) := by
  have hdec := decides_drainTest s z
  unfold State.drainTest at hdec ⊢
  split at hdec
  · next h =>
    rw [if_pos h]
    exact hdec.follows (s.setZone_trk _ _) (s.setZone_full _ _)
  · next h =>
    rw [if_neg h]
    exact .refl s

theorem follows_drainTests (s : State) : Follows s s.drainTests :=
  (((follows_drainTest s .a).trans (follows_drainTest _ .b)).trans (follows_drainTest _ .p)).trans
    (follows_drainTest _ .c)

/-! ### The test as the units begin to decide -/

/-- The flags after the tests, each as its own test gives it. -/
theorem State.belt_bpTests (s : State) (z : Belt) :
    (s.bpTests.belt z).backPressure = s.flagTested (s.belt z).backPressure z := by
  rw [← State.bpNext_eq]
  cases z <;> rfl

theorem State.flagTested_bpTests (s : State) (old : Bool) (z : Belt) :
    s.bpTests.flagTested old z = s.flagTested old z :=
  (decides_bpTests s).flagTested (by cases z <;> rfl) old

theorem FlagsStand.bpTests {s u : State} (h : FlagsStand s u) : Tested s u.bpTests := fun z => by
  rw [State.belt_bpTests, State.flagTested_bpTests, h z]

theorem Tested.bpTests {s u : State} (h : Tested s u) : Tested s u.bpTests := fun z => by
  rw [State.belt_bpTests, State.flagTested_bpTests, h z, State.flagTested_twice]

theorem follows_follow (s : State) : Follows s.bpTests s.follow :=
  (((follows_casingReleaseTest _).trans ((follows_stagingDecide _).trans (follows_jacketDecide _))).trans
    (follows_jacketReleaseTest _)).trans (follows_drainTests _)

/-- The flags after what follows a change that leaves them. -/
theorem FlagsStand.follow {s u : State} (h : FlagsStand s u) : Tested s u.follow :=
  h.bpTests.follows (follows_follow u)

theorem Tested.follow {s u : State} (h : Tested s u) : Tested s u.follow :=
  h.bpTests.follows (follows_follow u)

theorem Tested.recomputePeriod {s u : State} (h : Tested s u) : Tested s u.recomputePeriod := h

theorem Tested.link {s u : State} (h : Tested s u) (l : Link) : Tested s { u with link := l } := h

end Sys2Proof.Machine
end

section
/-! SUPPORT. The events after which the back-pressure flags are tested (R74): the count, the change of a
head, of its target or of what is downstream, SET CONFIG, the purge and the trip. -/
namespace Sys2Proof.Machine

/-! ### What leaves the flags as they are -/

theorem FlagsStand.of_updated {s t u : State} (h : FlagsStand s t) (hu : u.trk.belts = t.trk.belts) :
    FlagsStand s u := h.trans (flagsStand_of_belts hu)

theorem Tested.before {s u t : State} (h : Tested u t) (g : FlagsStand s u) : Tested s t := fun z => by
  rw [h z, g z]

theorem State.retire_trk (s : State) (r : Nat) (out : BookOutcome) : (s.retire r out).trk = s.trk := by
  have hgauging (u : State) : (u.endGaugingOf r).trk = u.trk := by
    unfold State.endGaugingOf
    split
    · split <;> rfl
    · rfl
  have haccount (u : State) (b : Book) : (u.accountRetirement b out).trk = u.trk := by
    unfold State.accountRetirement
    split <;> rfl
  unfold State.retire
  split
  · split
    · rw [hgauging, haccount]
      rfl
    · rfl
  · rfl

theorem State.removeAll_trk (s : State) (rs : List Nat) : (s.removeAll rs).trk = s.trk := by
  induction rs generalizing s with
  | nil => rfl
  | cons r rs ih => exact (ih _).trans (s.retire_trk r _)

theorem belts_retest (s : State) (w : Watch) : (s.retest w).trk.belts = s.trk.belts := by
  obtain ⟨gone, u, -, -, hre⟩ := retest_reheads s w
  rw [hre.trk]

theorem belts_newHead (s : State) (w : Watch) : (s.newHead w).trk.belts = s.trk.belts := by
  obtain ⟨gone, hre⟩ := newHead_reheads s w
  rw [hre.trk]
  rfl

theorem belts_ite_newHead (c : Bool) (s : State) (w : Watch) :
    (if c then s.newHead w else s).trk.belts = s.trk.belts := by
  cases c with
  | true => exact belts_newHead s w
  | false => rfl

theorem trk_forceCompletion (s : State) : s.forceCompletion.trk = s.trk := by
  have hsettle (u : State) : u.settleSamples.trk = u.trk := by
    unfold State.settleSamples
    split <;> rfl
  unfold State.forceCompletion
  rw [trk_completionTest, trk_endLength, hsettle, trk_closeWindow]

/-! ### Counts and watch points -/

theorem flagsStand_setBelt (s : State) (z : Belt) {k : BeltState}
    (h : k.backPressure = (s.belt z).backPressure) : FlagsStand s (s.setBelt z k) := fun y => by
  rw [State.belt_setBelt]
  split
  · next hy => rw [h, hy]
  · rfl

theorem flagsStand_fault (s : State) (z : Zone) (c : FaultCode) : FlagsStand s (s.fault z c) :=
  flagsStand_of_trk (s.fault_trk z c)

theorem flagsStand_backTravelTest (s : State) (z : Belt) : FlagsStand s (s.backTravelTest z) := by
  rw [State.backTravelTest_eq]
  split
  · refine FlagsStand.trans ?_ (flagsStand_fault _ _ _)
    exact flagsStand_setBelt s z rfl
  · exact fun _ => rfl

theorem flagsStand_downTests (s : State) (z : Belt) : FlagsStand s (s.downTests z) :=
  (flagsStand_backTravelTest s z).trans fun y => by rw [State.downTests, belt_openTests]

/-- A change of the phase lines is one of both, a step forward or a step back. -/
theorem phase_change {p q : Bool × Bool} (h : q ≠ p) :
    q = (!p.1, !p.2) ∨ q = (!p.2, p.1) ∨ q = (p.2, !p.1) := by
  obtain ⟨a, b⟩ := p
  obtain ⟨c, d⟩ := q
  simp only [ne_eq, Prod.mk.injEq] at h ⊢
  revert a b c d
  decide

/-- The flags after a count whose belt comes to `k`. -/
theorem tested_counted {s : State} {z : Belt} {k : BeltState}
    (h : k.backPressure = (s.belt z).backPressure) :
    Tested s ((s.setBelt z k).fault (beltZone z) .encoder).follow ∧
      Tested s ((s.setBelt z k).upTests z).follow ∧ Tested s ((s.setBelt z k).downTests z).follow := by
  have hset := flagsStand_setBelt s z h
  generalize s.setBelt z k = u at hset ⊢
  exact ⟨(hset.trans (flagsStand_fault u _ _)).follow, (hset.of_updated (belts_upTests u z)).follow,
    (hset.trans (flagsStand_downTests u z)).follow⟩

theorem tested_takePhases {s : State} {z : Belt} (h : s.phaseReading z ≠ (s.belt z).phase) :
    Tested s (s.takePhases z) := by
  rcases phase_change h with h | h | h
  · rw [State.takePhases_both h]
    exact (tested_counted (k := { s.belt z with phase := s.phaseReading z }) rfl).1
  · rw [State.takePhases_forward h]
    exact (tested_counted (k := { (s.belt z).up with phase := s.phaseReading z }) rfl).2.1
  · rw [State.takePhases_back h]
    exact (tested_counted (k := { (s.belt z).down with phase := s.phaseReading z }) rfl).2.2

theorem flagsStand_newHead {s u : State} (h : FlagsStand s u) (w : Watch) : FlagsStand s (u.newHead w) :=
  h.of_updated (belts_newHead u w)

/-- An arrival that is taken. -/
theorem tested_arrive {s : State} {w : Watch} {b : Book}
    (h : (w = .stagingEntry ∧ s.stg.queue.length < 4) ∨ w = .casing ∨
      (w = .pressEntry ∧ s.press.queue.length < 3) ∨ (w = .jacket ∧ s.dlv.stop = .empty) ∨
      (w = .outfeed ∧ b.lane ≠ none)) : Tested s (s.arrive w b) := by
  rcases h with ⟨rfl, hroom⟩ | rfl | ⟨rfl, hroom⟩ | ⟨rfl, hempty⟩ | ⟨rfl, hlane⟩
  · rw [State.arriveStaging_eq hroom]
    exact (flagsStand_of_belts (s := s) (belts_newHead (s.joinStaging b.slot) _)).follow
  · have hnoted : FlagsStand s (((s.moved b.slot .casing).setCasing (.cyclePending b.slot)).setOpened
        .casing false).casingCycleTest :=
      flagsStand_of_belts ((congrArg Tracking.belts (State.casingCycleTest_trk _)).trans rfl)
    exact hnoted.follow
  · rw [State.arrivePress_eq hroom]
    have hmoved : FlagsStand s ((s.joinPress b.slot).newHead .pressEntry).recomputePeriod :=
      flagsStand_of_belts (belts_newHead (s.joinPress b.slot) _)
    exact hmoved.follow.follows (follows_pressTest _)
  · rw [State.arriveJacket_eq hempty]
    exact (flagsStand_of_belts (s := s) (belts_newHead (s.joinStop b.slot) _)).follow
  · obtain ⟨l, hl⟩ := Option.ne_none_iff_exists'.1 hlane
    have hretired := flagsStand_of_trk (s.retire_trk b.slot (laneOutcome b l))
    have heq : s.arrive .outfeed b = ((s.retire b.slot (laneOutcome b l)).newHead .outfeed).follow := by
      show s.arriveOutfeed b = _
      unfold State.arriveOutfeed
      rw [hl]
    rw [heq]
    exact (flagsStand_newHead hretired _).follow

/-! ### The eyes -/

theorem tested_releaseEdge {s : State} {u : Timer} (h : s.stg.side = .forwardInFlight u) :
    Tested s s.releaseEdge := by
  have hidle (t : State) (ht : t.trk.belts = s.trk.belts) : Tested s t.follow :=
    (flagsStand_of_belts ht).follow
  unfold State.releaseEdge
  dsimp only
  split
  · split
    · split
      · exact hidle _ (belts_newHead _ _)
      · exact hidle _ rfl
    · exact hidle _ rfl
  all_goals next hside => cases h.symm.trans hside

theorem tested_rejectEdge {s : State} {u : Timer} (h : s.stg.side = .rejectInFlight u) :
    Tested s s.rejectEdge := by
  have hafter (t : State) (ht : t.trk.belts = s.trk.belts) : Tested s t.follow :=
    (flagsStand_of_belts ht).follow
  unfold State.rejectEdge
  dsimp only
  split
  · split
    · exact hafter _ ((congrArg Tracking.belts (State.retire_trk _ _ _)).trans rfl)
    · exact hafter _ rfl
  all_goals next hside => cases h.symm.trans hside

/-- The edge at the gauge creates a record, after which the flags are tested, or leaves the transit list. -/
theorem tested_gaugeLeading (s : State) :
    s.gaugeLeading.table.transit = s.table.transit ∨ Tested s s.gaugeLeading := by
  have hcrowds := crowds_crowdTest (s.noteEdge .gauge) ((s.noteEdge .gauge).captureOf .gauge)
  have htransit := congrArg BookTable.transit hcrowds.table
  have hbelts := congrArg Tracking.belts hcrowds.trk
  unfold State.gaugeLeading
  dsimp only
  generalize (s.noteEdge .gauge).crowdTest _ = e at htransit hbelts ⊢
  split
  · next slot hslot =>
    split
    · refine .inr (FlagsStand.follow (flagsStand_of_belts ?_))
      rw [belts_ite_newHead]
      exact (congrArg Tracking.belts (trk_forceCompletion _)).trans hbelts
    · exact .inl ((congrArg BookTable.transit (State.fault_table _ _ _)).trans htransit)
  · exact .inl ((congrArg BookTable.transit (State.fault_table _ _ _)).trans htransit)

theorem tested_casingExitEdge (s : State) :
    s.casingExitEdge.table.pressApproach = s.table.pressApproach ∨ Tested s s.casingExitEdge := by
  unfold State.casingExitEdge
  dsimp only
  split
  · split
    · refine .inr (FlagsStand.follow (flagsStand_of_belts ?_))
      rw [belts_ite_newHead]
      rfl
    · exact .inl rfl
  all_goals exact .inl (congrArg BookTable.pressApproach (State.fault_table _ _ _))

theorem tested_jacketExitEdge (s : State) :
    s.jacketExitEdge.table.delivery = s.table.delivery ∨ Tested s s.jacketExitEdge := by
  unfold State.jacketExitEdge
  dsimp only
  split
  · split
    · refine .inr (FlagsStand.follow (flagsStand_of_belts ?_))
      rw [belts_ite_newHead]
      rfl
    · exact .inl rfl
  all_goals exact .inl (congrArg BookTable.delivery (State.fault_table _ _ _))

/-! ### The press -/

theorem State.applyIndex_trk (s : State) (op : IndexOp) : (s.applyIndex op).trk = s.trk := by
  have hunload (u : State) (p r : Nat) : (u.applyUnload p r).trk = u.trk := by
    unfold State.applyUnload
    split
    · split <;> rfl
    · rfl
  have hload (u : State) (p r : Nat) (c : Clock) : (u.applyLoad p r c).trk = u.trk := by
    unfold State.applyLoad
    split
    · split <;> rfl
    · rfl
  have hride (u : State) (o : Option Nat) : (u.applyRideOn op o).recomputePeriod.trk = u.trk := by
    show (u.applyRideOn op o).trk = u.trk
    unfold State.applyRideOn
    split <;> rfl
  unfold State.applyIndex
  dsimp only
  rw [hride]
  cases op.unload <;> cases op.load <;> simp only [hload, hunload]

theorem tested_onIndexDone {s : State} (h : s.press.index ≠ none) : Tested s s.onIndexDone := by
  unfold State.onIndexDone
  split
  · next op _ =>
    refine (FlagsStand.follow (flagsStand_of_belts ?_)).follows (follows_pressTest _)
    rw [belts_ite_newHead, State.applyIndex_trk]
  · next hnone => exact absurd hnone h

theorem tested_unloadEdge {s : State} (h : s.press.awaited ≠ none) : Tested s s.unloadEdge := by
  unfold State.unloadEdge
  dsimp only
  split
  · refine (FlagsStand.follow (flagsStand_of_belts ?_)).follows (follows_pressTest _)
    split
    · exact belts_retest _ _
    · rfl
  · next hnone => exact absurd hnone h

theorem tested_onUnloadGraceExpiry {s : State} (h : s.press.awaited ≠ none) :
    Tested s s.onUnloadGraceExpiry := by
  unfold State.onUnloadGraceExpiry
  split
  · next r _ _ =>
    refine (FlagsStand.follow (flagsStand_of_belts ?_)).follows (follows_pressTest _)
    rw [belts_ite_newHead]
    exact congrArg Tracking.belts ((State.fault_trk _ _ _).trans (s.retire_trk r .lost))
  · next hnone => exact absurd hnone h

/-! ### The guard, the configuration and the purge -/

theorem tested_trip (s : State) : Tested s s.trip := by
  rw [State.trip_upstream]
  refine FlagsStand.bpTests (flagsStand_of_trk ?_)
  rw [State.tripDelivery_eq, State.tripUpstream_eq, State.allTripped_eq]

theorem tested_configure (s : State) (c : Cfg) : Tested s (s.configure c) := by
  have hbelts (ws : List Watch) (u : State) : (ws.foldl State.retest u).trk.belts = u.trk.belts := by
    induction ws generalizing u with
    | nil => rfl
    | cons w ws ih => exact (ih _).trans (belts_retest u w)
  have hvalues : FlagsStand s (s.putCfg c) := fun z => by cases z <;> rfl
  rw [State.configure_eq]
  exact (hvalues.of_updated (hbelts _ _)).bpTests.recomputePeriod.follow

theorem tested_purge (s : State) (z : Zone) : Tested s (s.purge z) := by
  refine FlagsStand.follow (flagsStand_of_belts ?_)
  have hclosed (u : State) : ((u.emptyZone z).closeWatches z).trk.belts = u.trk.belts := by
    cases z <;> rfl
  rw [hclosed, State.removeAll_trk]

end Sys2Proof.Machine
end

section
/-! SUPPORT. The commands at which the back-pressure flags are tested, and what else the units command
(R74, R108, R110, R113, R141, R151). -/
namespace Sys2Proof.Machine

/-! ### The requests and the guard -/

theorem tested_onSetConfig (body : List Byte) (s : State) :
    (onSetConfig body s).1 = s ∨ Tested s (onSetConfig body s).1 := by
  unfold onSetConfig
  split
  · exact .inl rfl
  · split
    · exact .inl rfl
    · split
      · exact .inl rfl
      · split
        · exact .inl rfl
        · dsimp only
          exact .inr (tested_configure s _)

theorem tested_onPurge (body : List Byte) (s : State) :
    (onPurge body s).1 = s ∨ Tested s (onPurge body s).1 := by
  unfold onPurge oneZone
  split
  · split
    · next z _ =>
      dsimp only
      split
      · dsimp only
        exact .inr (tested_purge s z)
      · exact .inl rfl
    · exact .inl rfl
  · exact .inl rfl

/-- A request that is taken leaves, but for the link, what its handler does. -/
theorem State.takeRequest_cases (s : State) (code : Byte) (h : Handler) (body : List Byte) :
    s.takeRequest code h body = s ∨ ∃ l, s.takeRequest code h body = { (h body s).1 with link := l } := by
  unfold State.takeRequest
  split
  · exact .inl rfl
  · exact .inr ⟨_, rfl⟩

theorem tested_takeRequest {s t : State} {code : Byte} {h : Handler} {body : List Byte} {α : Type}
    {f : State → α} (ht : s.takeRequest code h body = t) (hf : f t ≠ f s)
    (hlink : ∀ l, f { s with link := l } = f s) (hh : (h body s).1 = s ∨ Tested s (h body s).1) :
    Tested s t := by
  rcases s.takeRequest_cases code h body with hsame | ⟨l, hl⟩
  · exact absurd (congrArg f (ht.symm.trans hsame)) hf
  · rw [← ht, hl] at hf ⊢
    rcases hh with hrefused | htested
    · rw [hrefused] at hf
      exact absurd (hlink l) hf
    · exact htested.link l

/-- A point that is in INPUT mode stands in the table of the points. -/
theorem State.point_mem_of_input {s : State} {n : Nat} (h : (s.point n).mode = .input) :
    n - 1 < s.io.points.length := by
  by_contra hn
  rw [State.point, List.getElem?_eq_none (Nat.not_lt.1 hn)] at h
  cases h

theorem State.reads_cleared {s : State} {n : Nat} (h : (s.point n).mode = .input) :
    (s.cleared n).reads n = false := by
  rw [State.cleared, State.reads_setLevel _ (State.point_mem_of_input h)]
  unfold Point.reading activeLevel
  cases (s.point n).polarity <;> simp

theorem tested_guardOpens {s : State} (hmode : (s.point 27).mode = .input)
    (hclosed : s.io.guardClosed = true) : exec .guardOpens s = .next (s.cleared 27).takeGuard.trip ∧
      Tested s (s.cleared 27).takeGuard.trip := by
  have hguard : (s.cleared 27).io.guardClosed = true := hclosed
  have hopens : exec .guardOpens s = .next (s.cleared 27).refreshGuard :=
    congrArg Host.Outcome.next (if_pos hmode)
  refine ⟨?_, (tested_trip _).before (u := (s.cleared 27).takeGuard) (flagsStand_of_trk rfl)⟩
  rw [hopens, State.refreshGuard_eq, State.reads_cleared hmode, hguard]
  rfl

/-! ### The release of the jacket stop -/

theorem tested_jacketReleaseTimeout {s : State} {r : Nat} {u : Timer}
    (h : s.dlv.stop = .releasing r u) :
    (s.onJacketReleaseTimeout.belt .c).backPressure =
      s.onJacketReleaseTimeout.flagTested (s.belt .c).backPressure .c := by
  have htimeout : s.onJacketReleaseTimeout = ((s.fault .c .jacketJam).setStop (.done r)).bpTest .c := by
    unfold State.onJacketReleaseTimeout
    rw [h]
  have hstand : FlagsStand s ((s.fault .c .jacketJam).setStop (.done r)) := flagsStand_fault s _ _
  rw [htimeout]
  generalize (s.fault .c .jacketJam).setStop (.done r) = v at hstand ⊢
  rw [(decides_bpTest v .c).flagTested rfl, State.belt_bpTest, if_pos rfl, ← hstand .c]
  exact v.bpNext_eq .c

/-! ### The flags after the events -/

theorem tested_rising {s t : State} {n : Nat} {edge : State → State} (hmode : (s.point n).mode = .input)
    (h : s.risingInput n edge = t) (htested : Tested (s.blocked n) (edge (s.blocked n))) :
    Tested s t := by
  rw [← h, State.risingInput_input edge hmode]
  exact htested.before (flagsStand_of_trk rfl)

/-- The edge of an eye that changes a list of the Book Table, where its rule tests the flags or leaves
that list. -/
theorem tested_eyeBlocked {s t : State} {e : Eye} {f : BookTable → List Nat} (h : s.eyeBlocked e = t)
    (hf : f t.table ≠ f s.table) (hedge : ∀ u : State, f (u.leadingEdge e).table = f u.table ∨
      Tested u (u.leadingEdge e)) : Tested s t := by
  by_cases hmode : (s.point (eyePoint e)).mode = .input
  · have hrising : (s.blocked (eyePoint e)).leadingEdge e = t :=
      (State.risingInput_input (·.leadingEdge e) hmode).symm.trans h
    refine tested_rising (edge := (·.leadingEdge e)) hmode h ?_
    rcases hedge (s.blocked (eyePoint e)) with hsame | htested
    · rw [hrising] at hsame
      exact absurd hsame hf
    · exact htested
  · rw [State.eyeBlocked, State.risingInput_of_not_input _ hmode] at h
    subst h
    exact absurd rfl hf

theorem next_inj {s t : State} {o : Host.Outcome State Fault Refusal} (ho : o = .next s)
    (h : o = .next t) : s = t := Host.Outcome.next.inj (ho.symm.trans h)

theorem tested_watchPointArrival {s t : State} {w : Watch} {b : Book} {target : Count}
    (h : exec (.watchPointArrival w) s = .next t) (hmode : (s.point (eyePoint (watchEye w))).mode = .input)
    (htarget : s.target? w = some (b, target)) (hwindow : s.inWindow w target = true)
    (hroom : (w = .stagingEntry ∧ s.stg.queue.length < 4) ∨ w = .casing ∨
      (w = .pressEntry ∧ s.press.queue.length < 3) ∨ (w = .jacket ∧ s.dlv.stop = .empty) ∨
      (w = .outfeed ∧ b.lane ≠ none)) : Tested s t := by
  refine tested_rising hmode (next_inj (exec_watchPointArrival s w) h) ?_
  rw [State.watchEdge_some htarget, if_pos hwindow]
  exact (tested_arrive (s := s.watchNoted w) hroom).before (flagsStand_of_belts rfl)

/-- The test of a flag in the words of the rule. -/
theorem State.flagTested_iff {t : State} {old : Bool} {z : Belt} : t.flagTested old z = true ↔
    t.downstreamFull z = true ∧ ∃ b, t.head? (bpWatch z) = some b ∧ (old = true ∨
      ∃ target, t.target? (bpWatch z) = some (b, target) ∧
        -(t.cfg.margin.get z : Int) ≤ sdiff (t.belt z).count target) := by
  unfold State.flagTested State.aim
  rw [Bool.and_eq_true, Bool.and_eq_true, Bool.or_eq_true]
  refine and_congr_right fun _ => ?_
  cases hhead : t.head? (bpWatch z) with
  | none => simp
  | some b =>
    cases htarget : t.target? (bpWatch z) with
    | none => simp
    | some p =>
      obtain ⟨c, target⟩ := p
      obtain rfl : b = c :=
        Option.some.inj (hhead.symm.trans (State.head?_of_target? htarget))
      simp

theorem JacketStop.full_iff (x : JacketStop) : x.full = true ↔
    ∃ r, (∃ u, x = .waiting r u) ∨ (∃ u, x = .ejectInFlight r u) ∨ (∃ u, x = .inCycle r u) ∨
      x = .done r := by
  cases x <;> simp [JacketStop.full]

end Sys2Proof.Machine
end

section
/-! SUPPORT. Each event at which R74 tests the back-pressure flags, and the commands of the units. -/
namespace Sys2Proof.Machine

/-- The events after which R74 tests the flags. -/
def TestsFlags (s t : State) (c : Instr) : Prop :=
  c ∈ [Instr.samplePoint, .spanOverrun, .readWindowClose] ∨
    (∃ w, c = .watchWindowOpen w ∨ c = .headMissing w) ∨ (∃ z, c = .backTravel z) ∨
    (∃ z x y, c = .encoderPhaseChange z x y ∧ ((s.setLevel (phasePoints z).1 x).setLevel
      (phasePoints z).2 y).phaseReading z ≠ (s.belt z).phase) ∨
    (∃ w b target, c = .watchPointArrival w ∧ (s.point (eyePoint (watchEye w))).mode = .input ∧
      s.target? w = some (b, target) ∧ s.inWindow w target = true ∧
      ((w = .stagingEntry ∧ s.stg.queue.length < 4) ∨ w = .casing ∨
        (w = .pressEntry ∧ s.press.queue.length < 3) ∨ (w = .jacket ∧ s.dlv.stop = .empty) ∨
        (w = .outfeed ∧ b.lane ≠ none))) ∨
    (c = .releaseEyeEdge ∧ (s.point 9).mode = .input ∧ ∃ u, s.stg.side = .forwardInFlight u) ∨
    (c = .rejectEyeEdge ∧ (s.point 10).mode = .input ∧ ∃ u, s.stg.side = .rejectInFlight u) ∨
    (c = .gaugeLeadingEdge ∧ t.table.transit ≠ s.table.transit) ∨
    (c = .casingExitEyeEdge ∧ t.table.pressApproach ≠ s.table.pressApproach) ∨
    (c = .jacketExitEyeEdge ∧ t.table.delivery ≠ s.table.delivery) ∨
    (c = .indexDone ∧ (s.point 22).mode = .input ∧ s.press.index ≠ none) ∨
    (c = .unloadEyeEdge ∧ (s.point 14).mode = .input ∧ s.press.awaited ≠ none) ∨
    (c = .unloadGraceExpiry ∧ s.press.awaited ≠ none) ∨
    (c = .guardOpens ∧ (s.point 27).mode = .input ∧ s.io.guardClosed = true) ∨
    (∃ body, c = .setConfig body ∧ t.cfg ≠ s.cfg) ∨
    (∃ body, c = .purge body ∧ t.table.outcomes ≠ s.table.outcomes)

theorem State.reach_trk (s : State) (u : Timer) : (s.reach u).trk = s.trk := by
  unfold State.reach
  split <;> rfl

section
variable {s t : State}

theorem tested_count (h : exec .samplePoint s = .next t ∨ exec .spanOverrun s = .next t ∨
    exec .readWindowClose s = .next t) : Tested s t := by
  rcases h with h | h | h
  · rw [← next_inj (s := s.sampleTest.follow) rfl h]
    exact (flagsStand_of_trk (trk_sampleTest s)).follow
  · rw [← next_inj (s := s.spanTest.follow) rfl h]
    exact (flagsStand_of_trk (trk_spanTest s)).follow
  · rw [← next_inj (s := s.windowTest.follow) rfl h]
    exact (flagsStand_of_trk (trk_windowTest s)).follow

theorem tested_watchTest {w : Watch}
    (h : exec (.watchWindowOpen w) s = .next t ∨ exec (.headMissing w) s = .next t) : Tested s t := by
  rcases h with h | h
  · rw [← next_inj (s := (s.openTest w).follow) rfl h]
    exact (flagsStand_of_belts (belts_openTest s w)).follow
  · rw [← next_inj (s := (s.missingTest w).follow) rfl h]
    exact (flagsStand_of_belts (belts_missingTest s w)).follow

theorem tested_backTravel {z : Belt} (h : exec (.backTravel z) s = .next t) : Tested s t := by
  rw [← next_inj (s := (s.backTravelTest z).follow) rfl h]
  exact (flagsStand_backTravelTest s z).follow

theorem tested_phaseChange {z : Belt} {x y : Bool} (h : exec (.encoderPhaseChange z x y) s = .next t)
    (hphase : ((s.setLevel (phasePoints z).1 x).setLevel (phasePoints z).2 y).phaseReading z ≠
      (s.belt z).phase) : Tested s t := by
  let u := (s.setLevel (phasePoints z).1 x).setLevel (phasePoints z).2 y
  rw [← next_inj (s := u.takePhases z) rfl h]
  exact (tested_takePhases (s := u) hphase).before (flagsStand_of_trk rfl)

theorem tested_unloadGrace (h : exec .unloadGraceExpiry s = .next t) (hawaited : s.press.awaited ≠ none) :
    Tested s t := by
  obtain ⟨⟨r, u⟩, hr⟩ := Option.ne_none_iff_exists'.1 hawaited
  have hexpire : s.expire s.unloadGraceTimer State.onUnloadGraceExpiry =
      (s.reach u).onUnloadGraceExpiry := by
    rw [State.unloadGraceTimer, hr]
    rfl
  rw [← next_inj (s := s.expire s.unloadGraceTimer State.onUnloadGraceExpiry) rfl h, hexpire]
  have hreached : (s.reach u).press.awaited ≠ none := by
    unfold State.reach
    split <;> exact hawaited
  exact (tested_onUnloadGraceExpiry hreached).before (flagsStand_of_trk (s.reach_trk u))

/-- R74 at each event that tests the flags. -/
theorem tested_of_testsFlags {c : Instr} (h : exec c s = .next t) (hc : TestsFlags s t c) :
    Tested s t := by
  rcases hc with hc | ⟨w, hc⟩ | ⟨z, rfl⟩ | ⟨z, x, y, rfl, hphase⟩ |
    ⟨w, b, target, rfl, hmode, htarget, hwindow, hroom⟩ | ⟨rfl, hmode, u, hside⟩ |
    ⟨rfl, hmode, u, hside⟩ | ⟨rfl, hlist⟩ | ⟨rfl, hlist⟩ | ⟨rfl, hlist⟩ | ⟨rfl, hmode, hindex⟩ |
    ⟨rfl, hmode, hawaited⟩ | ⟨rfl, hawaited⟩ | ⟨rfl, hmode, hclosed⟩ | ⟨body, rfl, hcfg⟩ |
    ⟨body, rfl, hout⟩
  · simp only [List.mem_cons, List.not_mem_nil, or_false] at hc
    rcases hc with rfl | rfl | rfl
    · exact tested_count (.inl h)
    · exact tested_count (.inr (.inl h))
    · exact tested_count (.inr (.inr h))
  · rcases hc with rfl | rfl
    · exact tested_watchTest (.inl h)
    · exact tested_watchTest (.inr h)
  · exact tested_backTravel h
  · exact tested_phaseChange h hphase
  · exact tested_watchPointArrival h hmode htarget hwindow hroom
  · exact tested_rising (edge := (·.leadingEdge .release)) hmode (next_inj rfl h)
      (tested_releaseEdge (s := s.blocked 9) hside)
  · exact tested_rising (edge := (·.leadingEdge .reject)) hmode (next_inj rfl h)
      (tested_rejectEdge (s := s.blocked 10) hside)
  · exact tested_eyeBlocked (e := .gauge) (next_inj rfl h) hlist tested_gaugeLeading
  · exact tested_eyeBlocked (e := .casingExit) (next_inj rfl h) hlist tested_casingExitEdge
  · exact tested_eyeBlocked (e := .jacketExit) (next_inj rfl h) hlist tested_jacketExitEdge
  · exact tested_rising (edge := State.onIndexDone) hmode (next_inj rfl h)
      (tested_onIndexDone (s := s.blocked 22) hindex)
  · exact tested_rising (edge := (·.leadingEdge .unload)) hmode (next_inj rfl h)
      (tested_unloadEdge (s := s.blocked 14) hawaited)
  · exact tested_unloadGrace h hawaited
  · obtain ⟨hexec, htested⟩ := tested_guardOpens hmode hclosed
    rwa [← next_inj hexec h]
  · exact tested_takeRequest (f := State.cfg) (next_inj rfl h) hcfg (fun _ => rfl)
      (tested_onSetConfig body s)
  · exact tested_takeRequest (f := fun u : State => u.table.outcomes) (next_inj rfl h) hout (fun _ => rfl)
      (tested_onPurge body s)

theorem flag_jacketReleaseTimeout (h : exec .jacketReleaseTimeout s = .next t)
    (hstop : ∃ r u, s.dlv.stop = .releasing r u) :
    (t.belt .c).backPressure = t.flagTested (s.belt .c).backPressure .c := by
  obtain ⟨r, u, hr⟩ := hstop
  have hexpire : s.expire s.jacketReleaseTimer State.onJacketReleaseTimeout =
      (s.reach u).onJacketReleaseTimeout := by
    rw [State.jacketReleaseTimer, hr]
    rfl
  have hreached : (s.reach u).dlv.stop = .releasing r u := by
    unfold State.reach
    split <;> exact hr
  rw [← next_inj (s := s.expire s.jacketReleaseTimer State.onJacketReleaseTimeout) rfl h, hexpire,
    tested_jacketReleaseTimeout hreached, flagsStand_of_trk (s.reach_trk u) .c]

end

/-- Settles O49: each listed event ends with the flags tested, which the decisions after it keep; that the
flag of zone C rests during a release is kept by every command. -/
theorem unitCommands : Obligations.UnitCommands := by
  refine ⟨fun s t c h => ?_, fun s r => ?_⟩
  · intro full watch tested
    have hfull (z : Belt) : t.downstreamFull z = true ↔ full z := by
      cases z with
      | a | b => exact decide_eq_true_iff
      | c => exact JacketStop.full_iff _
    have hwatch (z : Belt) : bpWatch z = watch z := by cases z <;> rfl
    have htested (z : Belt)
        (hz : (t.belt z).backPressure = t.flagTested (s.belt z).backPressure z) : tested z := by
      show (t.belt z).backPressure = true ↔ _
      rw [hz, State.flagTested_iff, hfull, hwatch]
    refine ⟨fun hc z => htested z (tested_of_testsFlags h hc z), ?_, fun hnot hreleasing => ?_⟩
    · rintro rfl hstop
      exact htested .c (flag_jacketReleaseTimeout h hstop)
    · exact (keeps_exec h).rests (stopRests_of_not hnot) hreleasing
  · refine ⟨exec_casingCycleBegin, fun hnot => ?_, fun hcased hactive harmed hroom => ?_, fun hnot => ?_,
      fun hdone hactive harmed hroom => ?_, fun hnot => ?_, fun z => exec_drainEnd, fun z hnot => ?_⟩
    · exact congrArg Host.Outcome.next (State.casingCycleTest_of_not hnot)
    · exact congrArg Host.Outcome.next (State.casingReleaseTest_commanded hcased hactive harmed hroom)
    · exact congrArg Host.Outcome.next (State.casingReleaseTest_of_not hnot)
    · exact congrArg Host.Outcome.next (State.jacketReleaseTest_commanded hdone hactive harmed hroom)
    · exact congrArg Host.Outcome.next (State.jacketReleaseTest_of_not hnot)
    · exact congrArg Host.Outcome.next (State.drainTest_of_not hnot)

end Sys2Proof.Machine
end
